-- ==== Sys2Proof/Word.lean ====
section
/-! DEFINITION. The words, addresses and small numbers of the LV640 (spec/00_scope.md, sections 5 and 6). -/

namespace Sys2Proof

/-- A memory word: 16 bits, numbered 15 to 0 (00, 6.1). -/
abbrev Word := BitVec 16

/-- One byte lane of a word (00, 6.2). -/
abbrev Byte := BitVec 8

/-- A 20-bit word address, 00000h to FFFFFh (00, 6.1). -/
abbrev Addr := BitVec 20

/-- The index of a watch entry, 0 to 63 (R1), and the operand of a command word (R110). -/
abbrev Index := BitVec 6

/-- The 6-bit command tag of a command word (R110). -/
abbrev CommandTag := BitVec 6

/-- The 4-bit opcode of a command word (R110). -/
abbrev Opcode := BitVec 4

/-- An event class, 0 (most urgent) to 3 (R67). -/
abbrev EventClass := BitVec 2

/-- The number of a shadow slot, 0 to 255 (R5). -/
abbrev SlotNumber := BitVec 8

end Sys2Proof
end

