-- ==== Sys2Proof/Syntax.lean ====
section
/-! DEFINITION. The commands of the LV640: one constructor of `Instr` for each row of spec/opcode_table.json. -/

namespace Sys2Proof

/-- The byte-lane enables of a host write (00, 6.2): the lower lane is bits 7 to 0, the upper lane bits 15 to 8. -/
structure Lanes where
  lower : Bool
  upper : Bool
deriving DecidableEq, Repr

/-- Both lanes enabled: a full write. -/
def Lanes.both : Lanes := ⟨true, true⟩

/-- A host write as the host drives it: address, lane enables and data (R132). -/
structure HostWrite where
  addr : Addr
  lanes : Lanes
  data : Word
deriving DecidableEq, Repr

/-- A host access: a read or a write of one word (chapter 8, section 8.1). -/
inductive HostAccess where
  | read (addr : Addr)
  | write (w : HostWrite)
deriving DecidableEq, Repr

/-- The commands, in the order of the table. A command that software writes to COMMAND carries the fields of its
command word: the operand (an entry index where the command names one) and the command tag (R110, R111). -/
inductive Instr where
  /-- PIN_RESET (R139): the reset input is asserted. -/
  | pinReset
  /-- RESET_RELEASE (R109): the reset input is released with these levels on the straps. -/
  | resetRelease (cbsel1 cbsel0 : Bool)
  /-- HOST_WRITE (R25): a host write is taken. -/
  | hostWrite (addr : Addr) (lanes : Lanes) (data : Word)
  /-- CONSUME (R94): a host write to the CONSUME word is taken. -/
  | consume (lanes : Lanes) (data : Word)
  /-- LOAD (R115) of an entry. -/
  | load (entry : Index) (tag : CommandTag)
  /-- DISARM (R19) of an entry. -/
  | disarm (entry : Index) (tag : CommandTag)
  /-- SUSPEND (R20) of an entry. -/
  | suspend (entry : Index) (tag : CommandTag)
  /-- RESUME (R21) of an entry. -/
  | resume (entry : Index) (tag : CommandTag)
  /-- RETUNE (R116) of an entry. -/
  | retune (entry : Index) (tag : CommandTag)
  /-- SNAPSHOT (R119) of an entry. -/
  | snapshot (entry : Index) (tag : CommandTag)
  /-- FLUSH (R47); the operand is ignored. -/
  | flush (operand : Index) (tag : CommandTag)
  /-- MARK (R121); the two low bits of the operand are the class. -/
  | mark (operand : Index) (tag : CommandTag)
  /-- JOURNAL (R122); the operand is ignored. -/
  | journal (operand : Index) (tag : CommandTag)
  /-- TIMEBASE (R124); the operand is ignored. -/
  | timebase (operand : Index) (tag : CommandTag)
  /-- BADOP (R125): an opcode from 11 to 14. -/
  | badop (opcode : Opcode) (operand : Index) (tag : CommandTag)
  /-- RESTART (R126); the operand is ignored. -/
  | restart (operand : Index) (tag : CommandTag)
  /-- COMMAND_READ (R114): the Command Processor's read of a word for its command is taken. -/
  | commandRead
  /-- PRIME_READ (R15): the prime read of a LOAD is taken. -/
  | primeRead
  /-- SCRUB_READ (R150): the Scrubber's read is taken. -/
  | scrubRead
  /-- SNAPSHOT_WRITE (R120): the next SUMMARY or ENTRY REPORT write is taken. -/
  | snapshotWrite
  /-- COMPLETION_WRITE (R113): the COMPLETION write of the command in the slot is taken. -/
  | completionWrite
  /-- REFUSAL_WRITE (R112): the pending REFUSAL write is taken. -/
  | refusalWrite
  /-- STARTUP_WRITE (R109, R127): the next start-up write is taken. -/
  | startupWrite
  /-- BEGIN_RECORD (R87): the Journal Writer begins a record. -/
  | beginRecord
  /-- RECORD_WORD_WRITE (R88, R89): the next word of the record in flight is taken. -/
  | recordWordWrite
  /-- PUBLICATION (R88): the PRODUCE write of the record in flight is taken. -/
  | publication
  /-- INSTALL_REQUEST_TAKEN (R101): the Journal Writer takes the install request. -/
  | installRequestTaken
  /-- INSTALLATION (R102): the PRODUCE write of 0 of an installation is taken. -/
  | installation
  /-- PORT_GRANT (R135): the Port Arbiter makes a grant. -/
  | portGrant
  /-- TICK_EVENT (R144): the Timebase makes a tick event. -/
  | tickEvent
  /-- HOLDOFF_EXPIRY (R44) of an entry. -/
  | holdoffExpiry (entry : Index)
  /-- DEADLINE_EXPIRY (R57) of an entry. -/
  | deadlineExpiry (entry : Index)
  /-- SCRUB_EXPIRY (R149): the scrub countdown expires. -/
  | scrubExpiry
  /-- REFERENCE_CLOCK_PERIOD (R143): one period of the reference clock passes. -/
  | referenceClockPeriod
  /-- MEMORY_SIDE_AGENT_WRITE (R133): an agent on the memory side writes a word. -/
  | memorySideAgentWrite (addr : Addr) (data : Word)
  /-- HOST_ACCESS_PRESENTED (R138): the host presents an access. -/
  | hostAccessPresented (access : HostAccess)
deriving DecidableEq, Repr

end Sys2Proof
end

