-- ==== Sys2Proof/WellFormed.lean ====
section
/-! DEFINITION. Which terms of `Instr` spell a command of the table. Every operand is a bit field at its full width,
so the only check is on the opcode of BADOP (R125: opcodes 11 to 14). -/

namespace Sys2Proof

/-- The opcodes that BADOP names (R125). -/
def isUnusedOpcode (op : Opcode) : Bool := 11 ≤ op.toNat && op.toNat ≤ 14

/-- A term of `Instr` spells a command of the table. -/
def Instr.wellFormed : Instr → Bool
  | .badop op _ _ => isUnusedOpcode op
  | .pinReset => true
  | .resetRelease _ _ => true
  | .hostWrite _ _ _ => true
  | .consume _ _ => true
  | .load _ _ => true
  | .disarm _ _ => true
  | .suspend _ _ => true
  | .resume _ _ => true
  | .retune _ _ => true
  | .snapshot _ _ => true
  | .flush _ _ => true
  | .mark _ _ => true
  | .journal _ _ => true
  | .timebase _ _ => true
  | .restart _ _ => true
  | .commandRead => true
  | .primeRead => true
  | .scrubRead => true
  | .snapshotWrite => true
  | .completionWrite => true
  | .refusalWrite => true
  | .startupWrite => true
  | .beginRecord => true
  | .recordWordWrite => true
  | .publication => true
  | .installRequestTaken => true
  | .installation => true
  | .portGrant => true
  | .tickEvent => true
  | .holdoffExpiry _ => true
  | .deadlineExpiry _ => true
  | .scrubExpiry => true
  | .referenceClockPeriod => true
  | .memorySideAgentWrite _ _ => true
  | .hostAccessPresented _ => true

end Sys2Proof
end

