-- ==== Sys2Proof/Decode.lean ====
section
/-! DEFINITION. Words that spell a command. No row of spec/opcode_table.json gives bits ("fields" is empty in all 36),
so no word spells one by the table. The layout of the COMMAND word (10, section 10.2) is in Machine/Operands.lean:
it is a word the host writes to memory, which the Command Processor examines (R110). -/

namespace Sys2Proof

/-- The command that a word spells by the table's bits: none, since no row gives bits (log 17). -/
def decodeTableWord (_nbits _w : Nat) : Option Instr := none

end Sys2Proof
end

