-- ==== Sys2Proof/Config.lean ====
section
/-! DEFINITION. What the spec fixes for every LV640 (spec/00_scope.md section 5), the control-block offsets
(10, section 10.1), and the one choice the spec leaves open. -/

namespace Sys2Proof.Config

/-- Events the Event Queue holds (R69). -/
def queueCapacity : Nat := 32

/-- Shadow slots in the Shadow Store (R5). -/
def shadowSlots : Nat := 256

/-- The divisor after pin reset, and the one a RESTART hands the Timebase (R143, R145). -/
def resetDivisor : BitVec 16 := 25000

/-- The revision reported in PRESENCE (00 section 5, 10.2). -/
def revision : BitVec 8 := 0x01

/-- The largest guard count (R136). -/
def guardLimit : Nat := 8

/-- CB offsets of the words the part acts on, reads or writes (10.1). -/
def cbCommand : Nat := 0x000
def cbArgument : Nat := 0x001
def cbConsume : Nat := 0x002
def cbJournal : Nat := 0x004
def cbTimebase : Nat := 0x008
def cbCompletion : Nat := 0x010
def cbRefusal : Nat := 0x011
def cbProduce : Nat := 0x012
def cbPresence : Nat := 0x013
def cbSummary : Nat := 0x020
def cbReport : Nat := 0x040
def cbDescriptors : Nat := 0x100

/-- The number of words of the control block (R106). -/
def cbWords : Nat := 0x300

/-- FREE VALUE (R71, log 4). When one write to a watched CONSUME word creates both an event of an entry and a
CONSUME_ERROR, the two arrive at the Event Queue "in either order". The n-th such choice of a run is
`consumeErrorFirst n`: true where the CONSUME_ERROR arrives first. It has no body, so nothing can be proved of it. -/
opaque consumeErrorFirst : Nat → Bool

end Sys2Proof.Config
end

