-- ==== Sys2Proof/Machine/State.lean ====
section
/-! DEFINITION. The state of the LV640 as plain data, one structure for each block of 00 section 4, and the state
right after reset. -/

namespace Sys2Proof.Machine

/-! ## Watch Table and Shadow Store (chapters 1 to 4) -/

/-- The lifecycle of an entry (R1). -/
inductive EntryState where
  | free | priming | armed | suspended
deriving DecidableEq, Repr

/-- The senses (R30). -/
inductive Sense where
  | rise | fall | either | enter | leave | touch
deriving DecidableEq, Repr

/-- The holdoff state of an entry (R41). -/
inductive HoldoffState where
  | quiet | holding
deriving DecidableEq, Repr

/-- The deadline state of an entry (R54). -/
inductive DeadlineState where
  | off | running | stale
deriving DecidableEq, Repr

/-- The state an entry takes when priming ends (R1). -/
inductive PrimingTarget where
  | armed | suspended
deriving DecidableEq, Repr

/-- The merge record of an entry: the count of merged triggers and the last of them (R41). -/
structure MergeRecord where
  count : BitVec 16
  offset : BitVec 4
  old : Word
  new : Word
deriving DecidableEq, Repr

/-- A cleared merge record: all four fields 0 (R41). -/
def MergeRecord.clear : MergeRecord := ⟨0, 0, 0, 0⟩

/-- A watch entry (R1). -/
structure Entry where
  state : EntryState
  base : Addr
  span : BitVec 5
  sense : Sense
  mask : Word
  pattern : Word
  cls : EventClass
  tag : Word
  holdoff : BitVec 16
  holdoffState : HoldoffState
  holdoffRemaining : BitVec 16
  merge : MergeRecord
  deadline : BitVec 16
  missLimit : BitVec 4
  deadlineState : DeadlineState
  deadlineRemaining : BitVec 16
  missCount : BitVec 4
  eventCount : BitVec 16
  primingTarget : PrimingTarget
  primeProgress : BitVec 5
  slots : List SlotNumber
deriving DecidableEq, Repr

/-- A FREE entry: every other field is zero (R1, R23). -/
def Entry.free : Entry where
  state := .free
  base := 0
  span := 0
  sense := .rise
  mask := 0
  pattern := 0
  cls := 0
  tag := 0
  holdoff := 0
  holdoffState := .quiet
  holdoffRemaining := 0
  merge := .clear
  deadline := 0
  missLimit := 0
  deadlineState := .off
  deadlineRemaining := 0
  missCount := 0
  eventCount := 0
  primingTarget := .armed
  primeProgress := 0
  slots := []

/-- A shadow slot (R5): its value, its two byte-known marks, and whether an entry holds it. -/
structure Slot where
  value : Word
  lowerKnown : Bool
  upperKnown : Bool
  held : Bool
deriving DecidableEq, Repr

/-- A slot after reset: free, value 0000h, both marks clear (R5, R23). -/
def Slot.reset : Slot := ⟨0, false, false, false⟩

/-! ## Event Queue (chapter 5) -/

/-- The kinds of event (R67). LOSS is a record kind and not one of these. -/
inductive EventKind where
  | edge | merged | stale | fresh | diverge | mark | notice
deriving DecidableEq, Repr

/-- An event: the nine fields of R67. -/
structure Event where
  kind : EventKind
  cls : EventClass
  index : Index
  offset : BitVec 4
  old : Word
  new : Word
  tag : Word
  count : BitVec 16
  time : BitVec 32
deriving DecidableEq, Repr

/-- The Event Queue (R69, R78): a list for each class, oldest event first, and the counters. `takeMet` is the model's
own (DEDUCED, log 22): an arrival at the full queue met a take that was due when its act began, and was dealt with first
(R74). -/
structure EventQueue where
  lists : Vector (List Event) 4
  created : BitVec 32
  journaled : BitVec 32
  lost : Vector (BitVec 32) 4
  unreported : Vector (BitVec 16) 4
  takeMet : Bool
deriving DecidableEq, Repr

/-- The Event Queue after pin reset and after RESTART (R83). -/
def EventQueue.reset : EventQueue where
  lists := Vector.replicate 4 []
  created := 0
  journaled := 0
  lost := Vector.replicate 4 0
  unreported := Vector.replicate 4 0
  takeMet := false

/-! ## Journal Writer (chapter 6) -/

/-- The record formats (R84). -/
inductive Format where
  | compact | full
deriving DecidableEq, Repr

/-- What a record in flight reports (R87): an event, or the four unreported lost counts handed over and the tick
counter when the LOSS record was begun. -/
inductive RecordContent where
  | event (e : Event)
  | loss (counts : Vector (BitVec 16) 4) (time : BitVec 32)
deriving DecidableEq, Repr

/-- The record in flight (R87, R88): its content, its index, and how many of its N words have been taken. -/
structure RecordInFlight where
  content : RecordContent
  index : Nat
  wordsTaken : Nat
deriving DecidableEq, Repr

/-- An install request (R101): the new ring, and whether the writer has taken the request. -/
structure InstallRequest where
  base : Addr
  length : Nat
  format : Format
  threshold : Nat
  taken : Bool
deriving DecidableEq, Repr

/-- The Journal Writer (R84, R85, R96, R98, R99). -/
structure Journal where
  base : Addr
  length : Nat
  format : Format
  threshold : Nat
  produce : Nat
  consume : Nat
  urgentIndex : Nat
  urgentPending : Bool
  attn : Bool
  consumeImage : Word
  record : Option RecordInFlight
  install : Option InstallRequest
deriving DecidableEq, Repr

/-- The Journal Writer after pin reset and after RESTART (R104, R105). -/
def Journal.reset : Journal where
  base := 0
  length := 0
  format := .compact
  threshold := 0
  produce := 0
  consume := 0
  urgentIndex := 0
  urgentPending := false
  attn := false
  consumeImage := 0
  record := none
  install := none

/-- The states of the Journal Writer (R86). They follow from the ring, the record in flight and the occupancy. -/
inductive WriterState where
  | off | ready | full | writing
deriving DecidableEq, Repr

/-! ## Command Processor (chapter 7) -/

/-- The states of the Command Processor (R107). -/
inductive ProcessorState where
  | starting | idle | reading | filling | waiting | publishing
deriving DecidableEq, Repr

/-- The command slot's content (R107). -/
structure CommandSlot where
  opcode : Opcode
  operand : Index
  tag : CommandTag
deriving DecidableEq, Repr

/-- An owed ABORTED completion of the start-up record (R107). -/
structure OwedAborted where
  opcode : Opcode
  tag : CommandTag
deriving DecidableEq, Repr

/-- The result codes (R113). -/
inductive ResultCode where
  | done | busy | badop | inuse | notarmed | noroom | overlap | baddesc | mismatch | aborted | partialWrite
deriving DecidableEq, Repr

/-- The start-up writes (R109, R127). -/
inductive StartupWrite where
  /-- COMPLETION with 0000h, after pin reset. -/
  | zeroCompletion
  /-- REFUSAL with the pending refusal, after pin reset. -/
  | refusal
  /-- COMPLETION with ABORTED for the command a RESTART abandoned. -/
  | aborted
  /-- PRESENCE with the revision and the start count. -/
  | presence
  /-- PRODUCE with 0000h. -/
  | produce
  /-- COMPLETION with DONE for the RESTART. -/
  | restartDone
deriving DecidableEq, Repr

/-- The two sources of the Command Processor's claims (R108). -/
inductive ClaimSource where
  | work | refusal
deriving DecidableEq, Repr

/-- The Command Processor (R106, R107, R108, R112, R114, R119, R126). -/
structure Processor where
  state : ProcessorState
  slot : Option CommandSlot
  restartTag : Option CommandTag
  owedAborted : Option OwedAborted
  startupWrites : List StartupWrite
  pendingRefusal : Option Word
  readWords : List Word
  result : Option ResultCode
  capture : List (Nat × Word)
  claim : Option ClaimSource
  startCount : BitVec 8
  cbsel : BitVec 2
deriving DecidableEq, Repr

/-- The Command Processor's pin-reset values (R107, R109), with the straps' sampled levels and no claim presented. -/
def Processor.reset (cbsel : BitVec 2) : Processor where
  state := .starting
  slot := none
  restartTag := none
  owedAborted := none
  startupWrites := [.zeroCompletion, .refusal, .produce, .presence]
  pendingRefusal := some 0
  readWords := []
  result := none
  capture := []
  claim := none
  startCount := 0
  cbsel := cbsel

/-! ## Memory Port and Port Arbiter (chapter 8) -/

/-- The three internal claimants (R134, R137). -/
inductive Claimant where
  | processor | writer | scrubber
deriving DecidableEq, Repr

/-- The access being performed at the memory (R135): a host write, or an internal claimant's access. A host read is
taken in the act of its grant (log 10). -/
inductive PortUser where
  | host (w : HostWrite)
  | internal (c : Claimant)
deriving DecidableEq, Repr

/-- The Memory Port and the Port Arbiter (R135 to R138), with the RESET input and the host's read data (R129). -/
structure Port where
  hostWaiting : Option HostAccess
  performing : Option PortUser
  guard : Nat
  pointer : Claimant
  wait : Bool
  readData : Word
  resetAsserted : Bool
deriving DecidableEq, Repr

/-- The port's values after reset (R138, R139): nothing waits, g is 0 and the pointer names the Command Processor. -/
def Port.reset (readData : Word) (resetAsserted : Bool) : Port where
  hostWaiting := none
  performing := none
  guard := 0
  pointer := .processor
  wait := false
  readData := readData
  resetAsserted := resetAsserted

/-! ## Timebase and Scrubber (chapter 9) -/

/-- The Timebase (R143). -/
structure Timebase where
  tick : BitVec 32
  divisor : BitVec 16
  pendingDivisor : Option (BitVec 16)
  phase : BitVec 16
deriving DecidableEq, Repr

/-- The Timebase after pin reset (R143). -/
def Timebase.reset : Timebase := ⟨0, Config.resetDivisor, none, 0⟩

/-- The Scrubber's outstanding claim (R147). -/
structure ScrubClaim where
  entry : Index
  offset : BitVec 4
  addr : Addr
  void : Bool
deriving DecidableEq, Repr

/-- The Scrubber (R147). -/
structure Scrubber where
  interval : BitVec 16
  countdown : BitVec 16
  running : Bool
  cursorEntry : Index
  cursorOffset : BitVec 4
  claim : Option ScrubClaim
deriving DecidableEq, Repr

/-- The Scrubber after pin reset and after RESTART (R147). -/
def Scrubber.reset : Scrubber := ⟨0, 0, false, 0, 0, none⟩

/-! ## The whole machine -/

/-- The SRAM behind the part (00 section 5): cells of one byte, byte 2a the lower lane of word a and byte 2a + 1 its
upper lane (log 19), in the canonical form of `Memory.wf`. -/
abbrev Memory := List Host.Cell

/-- The state of the LV640, of the SRAM behind it, and of the queue of commands. -/
structure State where
  entries : Vector Entry 64
  slots : Vector Slot 256
  freeCount : Nat
  queue : EventQueue
  journal : Journal
  proc : Processor
  port : Port
  timebase : Timebase
  scrubber : Scrubber
  mem : Memory
  /-- The model's own field (log 4): the number of free choices made so far. -/
  freeCounter : Nat
  /-- The model's own field (log 17): the commands waiting to be taken, first in, first out. -/
  pending : List Instr
deriving DecidableEq, Repr

/-- Why the machine would stop with a fault: never. No rule of the spec makes the part stop, so no command raises a
fault, and the type has no constructor (safe: nothing is cut short). -/
inductive Fault where
deriving DecidableEq, Repr

/-- Why a command would have no meaning in the model. -/
inductive Refusal where
  /-- Raised by a refused arm of `exec` for a row that has no meaning yet (safe). No arm raises it in this model. -/
  | notModelled (mnemonic : String)
deriving DecidableEq, Repr

/-- The machine right after the release of pin reset with both straps low (R109; log 2): every block at its pin-reset
values, the Command Processor STARTING with its first start-up write claimed, nothing listed in memory (log 1). -/
def State.reset : State where
  entries := Vector.replicate 64 .free
  slots := Vector.replicate 256 .reset
  freeCount := Config.shadowSlots
  queue := .reset
  journal := .reset
  proc := { Processor.reset 0 with claim := some .work }
  port := .reset 0 false
  timebase := .reset
  scrubber := .reset
  mem := []
  freeCounter := 0
  pending := []

end Sys2Proof.Machine
end

