-- ==== Sys2Proof/Machine/Memory.lean ====
section
/-! DEFINITION. The SRAM: reading and writing bytes and words, and the canonical form of its cells (log 1, log 19). -/

namespace Sys2Proof.Machine

/-- DESIGN CHOICE (log 1, unsafe): what a byte that nothing has written reads as. The spec gives memory no content at
power-up and does not clear it at reset (11, section 11.2). -/
def Memory.background : Byte := 0

/-- The bytes of the address space: two lanes of 2^20 words (00 section 5). -/
def Memory.size : Nat := 0x200000

/-- The byte at a cell address. -/
def Memory.readByte : Memory → Nat → Byte
  | [], _ => Memory.background
  | (k, b) :: m, a => if k = a then b else Memory.readByte m a

/-- Puts a cell into a rising list, before the first cell of a greater address. -/
def Memory.insertCell (a : Nat) (b : Byte) : Memory → Memory
  | [] => [(a, b)]
  | (k, c) :: m => if a < k then (a, b) :: (k, c) :: m else (k, c) :: Memory.insertCell a b m

/-- Writes a byte at a cell address. Writing what an unlisted byte reads as removes the cell. -/
def Memory.writeByte (m : Memory) (a : Nat) (b : Byte) : Memory :=
  let others := m.filter fun cell => cell.1 ≠ a
  if b = Memory.background then others else Memory.insertCell a b others

/-- The cell address of the lower lane of a word. -/
def lowerCell (a : Addr) : Nat := 2 * a.toNat

/-- The cell address of the upper lane of a word. -/
def upperCell (a : Addr) : Nat := 2 * a.toNat + 1

/-- The lower byte of a word, bits 7 to 0 (00, 6.2). -/
def lowerByte (w : Word) : Byte := w.extractLsb' 0 8

/-- The upper byte of a word, bits 15 to 8 (00, 6.2). -/
def upperByte (w : Word) : Byte := w.extractLsb' 8 8

/-- A word from its upper and lower bytes. -/
def joinBytes (upper lower : Byte) : Word := upper ++ lower

/-- A word of memory. -/
def Memory.readWord (m : Memory) (a : Addr) : Word :=
  joinBytes (Memory.readByte m (upperCell a)) (Memory.readByte m (lowerCell a))

/-- A host write at the memory (R130, R131): each enabled lane is stored and the other keeps its byte. -/
def Memory.writeLanes (m : Memory) (a : Addr) (lanes : Lanes) (data : Word) : Memory :=
  let m1 := if lanes.lower then Memory.writeByte m (lowerCell a) (lowerByte data) else m
  if lanes.upper then Memory.writeByte m1 (upperCell a) (upperByte data) else m1

/-- A write of a whole word, as the part's own writes are (R134). -/
def Memory.writeWord (m : Memory) (a : Addr) (data : Word) : Memory :=
  Memory.writeLanes m a Lanes.both data

/-- The canonical form: addresses strictly rising and inside the address space, and no cell equal to what an unlisted
byte reads as. -/
abbrev Memory.wf (m : Memory) : Prop :=
  m.Pairwise (fun x y => x.1 < y.1) ∧ ∀ cell ∈ m, cell.1 < Memory.size ∧ cell.2 ≠ Memory.background

end Sys2Proof.Machine
end

