-- ==== Sys2Proof/Machine/Operands.lean ====
section
/-! DEFINITION. The fields of the words the part reads: COMMAND (10.2), the entry descriptor (10.3), the journal and
timebase descriptors (10.4), and the value a host write leaves in a word (R26). -/

namespace Sys2Proof.Machine

/-- The value a write leaves in a word that held `old`: each enabled lane from the data, the other from `old`
(R26, R96). -/
def mergeLanes (lanes : Lanes) (old data : Word) : Word :=
  joinBytes (if lanes.upper then upperByte data else upperByte old)
    (if lanes.lower then lowerByte data else lowerByte old)

/-- At least one lane is enabled (R24). -/
def anyLane (lanes : Lanes) : Bool := lanes.lower || lanes.upper

/-- Both lanes are enabled: a full write. -/
def isFull (lanes : Lanes) : Bool := lanes.lower && lanes.upper

/-! ## COMMAND -/

/-- A command word: bits 15 to 10 the command tag, 9 to 4 the operand, 3 to 0 the opcode (10.2). -/
def commandWord (opcode : Opcode) (operand : Index) (tag : CommandTag) : Word :=
  (tag ++ operand ++ opcode : BitVec (6 + 6 + 4))

/-- The opcode of a command word. -/
def opcodeOf (w : Word) : Opcode := w.extractLsb' 0 4

/-- The operand of a command word. -/
def operandOf (w : Word) : Index := w.extractLsb' 4 6

/-- The command tag of a command word. -/
def tagOf (w : Word) : CommandTag := w.extractLsb' 10 6

/-- The class a MARK operand gives: its two low bits (R111, R121). -/
def markClass (operand : Index) : EventClass := operand.extractLsb' 0 2

/-! ## The entry descriptor -/

/-- An entry descriptor as its eight words give it (10.3). -/
structure Descriptor where
  base : Addr
  span : BitVec 5
  senseCode : BitVec 3
  cls : EventClass
  startSuspended : Bool
  mask : Word
  pattern : Word
  tag : Word
  holdoff : BitVec 16
  deadline : BitVec 16
  missLimit : BitVec 4
  spareD1 : Bool
  spareD7 : BitVec 12
deriving DecidableEq, Repr

/-- The word of a list of words read, by its position. -/
def wordAt (ws : List Word) (k : Nat) : Word := ws.getD k 0

/-- The descriptor that the words d0 to d7 spell (10.3). -/
def descriptorOf (ws : List Word) : Descriptor :=
  let d1 := wordAt ws 1
  { base := (d1.extractLsb' 0 4 ++ wordAt ws 0 : BitVec (4 + 16))
    span := d1.extractLsb' 4 5
    senseCode := d1.extractLsb' 9 3
    cls := d1.extractLsb' 12 2
    startSuspended := d1.getLsbD 14
    mask := wordAt ws 2
    pattern := wordAt ws 3
    tag := wordAt ws 4
    holdoff := wordAt ws 5
    deadline := wordAt ws 6
    missLimit := (wordAt ws 7).extractLsb' 0 4
    spareD1 := d1.getLsbD 15
    spareD7 := (wordAt ws 7).extractLsb' 4 12 }

/-- The sense a code names; codes 6 and 7 name none (R30). -/
def senseOf (code : BitVec 3) : Option Sense :=
  match code.toNat with
  | 0 => some .rise
  | 1 => some .fall
  | 2 => some .either
  | 3 => some .enter
  | 4 => some .leave
  | 5 => some .touch
  | _ => none

/-- A descriptor is illegal (R11, R155). -/
def Descriptor.illegal (d : Descriptor) : Bool :=
  d.span.toNat == 0 || decide (16 < d.span.toNat)
    || decide (0xFFFFF < d.base.toNat + d.span.toNat - 1)
    || (senseOf d.senseCode).isNone
    || (d.mask == 0 && senseOf d.senseCode != some Sense.touch)
    || (d.deadline != 0 && d.missLimit == 0)
    || d.spareD1 || d.spareD7 != 0

/-! ## The journal descriptor -/

/-- The number of words of a record: 8 for FULL, 4 for COMPACT (R84). -/
def recordWords : Format → Nat
  | .full => 8
  | .compact => 4

/-- The ring that CB + 004h to CB + 007h name (10.4); with L = 0 the request installs T = 0 (R122). -/
def installRequestOf (ws : List Word) : InstallRequest :=
  let high := wordAt ws 1
  let length := (wordAt ws 2).toNat
  { base := (high.extractLsb' 0 4 ++ wordAt ws 0 : BitVec (4 + 16))
    length := length
    format := if high.getLsbD 8 then .full else .compact
    threshold := if length = 0 then 0 else (wordAt ws 3).toNat
    taken := false }

/-- A must-be-zero bit of CB + 005h is set: a bit outside bits 8 and 3 to 0 (R122, R155). -/
def journalSpareSet (ws : List Word) : Bool := wordAt ws 1 &&& 0xFEF0#16 != 0

/-- Two runs of words, each given by its first word and its number of words, have a word in common. -/
def runsMeet (a n b m : Nat) : Bool := decide (0 < n) && decide (0 < m) && decide (a < b + m) && decide (b < a + n)

end Sys2Proof.Machine
end

