-- ==== Sys2Proof/Machine/Flags.lean ====
section
/-! DEFINITION. What follows from the state of a block without being stored in it: the ring's occupancy, slots and lap
bits (R85), the writer state (R86), the ATTN level (R99), the queue's depth and classes present (R69), and which
claims are presented (R108, R134). -/

namespace Sys2Proof.Machine

/-! ## The ring -/

/-- The distance from index `i` up to the produce index, modulo 2L (R85). -/
def Journal.distance (j : Journal) (i : Nat) : Nat := (j.produce + 2 * j.length - i) % (2 * j.length)

/-- The occupancy: records published and not yet consumed; 0 without a ring (R85). -/
def Journal.occupancy (j : Journal) : Nat := if j.length = 0 then 0 else j.distance j.consume

/-- The slot of an index (R85). -/
def Journal.slotOf (j : Journal) (i : Nat) : Nat := i % j.length

/-- The lap bit of an index (R85). -/
def Journal.lapOf (j : Journal) (i : Nat) : Bool := decide (i / j.length = 1)

/-- The index after an index, wrapping from 2L − 1 to 0 (R85). -/
def Journal.next (j : Journal) (i : Nat) : Nat := (i + 1) % (2 * j.length)

/-- The writer state (R86). -/
def Journal.state (j : Journal) : WriterState :=
  if j.length = 0 then .off
  else if j.record.isSome then .writing
  else if j.occupancy = j.length then .full
  else .ready

/-- The writer stands ready to begin a record (R87, R101): it is READY, and no install request waits or is pending. -/
def Journal.standsReady (j : Journal) : Bool := j.state == .ready && j.install.isNone

/-- The level of ATTN (R99). -/
def Journal.attnLevel (j : Journal) : Bool :=
  j.length != 0 && (decide (j.threshold ≤ j.occupancy) || j.urgentPending)

/-- Word `w` of the record in slot `slot` (R84). -/
def Journal.recordAddr (j : Journal) (slot w : Nat) : Addr :=
  BitVec.ofNat 20 (j.base.toNat + slot * recordWords j.format + w)

/-- A consume value is legal (R94). -/
def Journal.consumeLegal (j : Journal) (v : Nat) : Bool :=
  decide (v < 2 * j.length) && decide (j.distance v ≤ j.distance j.consume)

/-! ## The Event Queue -/

/-- The classes, the most urgent first. -/
def classes : List EventClass := [0, 1, 2, 3]

/-- The list of a class, the oldest event first (R69). -/
def EventQueue.list (q : EventQueue) (c : EventClass) : List Event := q.lists[c.toNat]'c.isLt

/-- The depth: the number of events in all four lists (R69). -/
def EventQueue.depth (q : EventQueue) : Nat := (classes.map fun c => (q.list c).length).sum

/-- The most urgent class present (R69). -/
def EventQueue.mostUrgent (q : EventQueue) : Option EventClass := classes.find? fun c => !(q.list c).isEmpty

/-- The least urgent class present (R69). -/
def EventQueue.leastUrgent (q : EventQueue) : Option EventClass :=
  classes.reverse.find? fun c => !(q.list c).isEmpty

/-- The unreported lost count of a class (R78). -/
def EventQueue.unreportedOf (q : EventQueue) (c : EventClass) : BitVec 16 := q.unreported[c.toNat]'c.isLt

/-- The lost total of a class (R78). -/
def EventQueue.lostOf (q : EventQueue) (c : EventClass) : BitVec 32 := q.lost[c.toNat]'c.isLt

/-- Some class has an unreported loss (R87). -/
def EventQueue.hasUnreported (q : EventQueue) : Bool := classes.any fun c => q.unreportedOf c != 0

/-! ## Entries -/

/-- An entry holds an address: it is not FREE and its span covers the address (R3, R25). -/
def Entry.holds (e : Entry) (a : Addr) : Bool :=
  e.state != .free && decide (e.base.toNat ≤ a.toNat) && decide (a.toNat < e.base.toNat + e.span.toNat)

/-- The holdoff timer runs (R44). -/
def Entry.holdoffRuns (e : Entry) : Bool := e.state == .armed && e.holdoffState == .holding

/-- The deadline timer runs (R56). -/
def Entry.deadlineRuns (e : Entry) : Bool := e.state == .armed && e.deadlineState == .running

/-- The Scrubber's cursor visits the entry (R3, R149). -/
def Entry.scrubbed (e : Entry) : Bool := e.state == .armed || e.state == .suspended

/-! ## Claims -/

/-- The REFUSAL write still has its place among the pin-reset start-up writes (R109). -/
def Processor.refusalInStartup (p : Processor) : Bool := p.startupWrites.contains .refusal

/-- A REFUSAL write of its own waits to be presented (R108, R109, R112). -/
def Processor.refusalWaits (p : Processor) : Bool := p.pendingRefusal.isSome && !p.refusalInStartup

/-- The current work of the Command Processor has an access to present (R108, R111). -/
def Processor.workWaits (p : Processor) : Bool :=
  match p.state with
  | .starting => !p.startupWrites.isEmpty
  | .idle => false
  | .reading => true
  | .filling => true
  | .waiting => false
  | .publishing => true

/-- The Journal Writer has a write to present: the next one of its record, or the PRODUCE of an installation
(R88, R101). -/
def Journal.claims (j : Journal) : Bool :=
  j.record.isSome || (match j.install with | some r => r.taken | none => false)

/-- An internal claimant has a claim presented and not taken (R134). -/
def State.claims (s : State) : Claimant → Bool
  | .processor => s.proc.claim.isSome
  | .writer => s.journal.claims
  | .scrubber => s.scrubber.claim.isSome

/-- Some internal claim waits (R135). -/
def State.internalWaits (s : State) : Bool := s.claims .processor || s.claims .writer || s.claims .scrubber

end Sys2Proof.Machine
end

