-- ==== Sys2Proof/Machine/Ops.lean ====
section
/-! DEFINITION. The shared operations: reading and writing entries and shadow slots, events arriving at and leaving
the Event Queue, the part's own accesses, the claims of the Command Processor and the grants of the Port Arbiter. -/

namespace Sys2Proof.Machine

/-! ## Watch Table and Shadow Store -/

/-- The entry indices in ascending order, 0 to 63. -/
def entryNumbers : List Index := (List.range 64).map (BitVec.ofNat 6)

/-- The slot numbers in ascending order, 0 to 255. -/
def slotNumbers : List SlotNumber := (List.range 256).map (BitVec.ofNat 8)

/-- Entry n. -/
def State.entry (s : State) (n : Index) : Entry := s.entries[n.toNat]'n.isLt

/-- Replaces entry n. -/
def State.setEntry (s : State) (n : Index) (e : Entry) : State :=
  { s with entries := s.entries.set n.toNat e n.isLt }

/-- Does `act` for each entry of a list, in the list's order. -/
def State.forEach (s : State) (ns : List Index) (act : Index → State → State) : State :=
  ns.foldl (fun t n => act n t) s

/-- Shadow slot k. -/
def State.slot (s : State) (k : SlotNumber) : Slot := s.slots[k.toNat]'k.isLt

/-- Replaces shadow slot k. -/
def State.setSlot (s : State) (k : SlotNumber) (v : Slot) : State :=
  { s with slots := s.slots.set k.toNat v k.isLt }

/-- The slot an entry keeps the shadow of an offset in (R6). Offsets below the span always have one (log 20). -/
def Entry.slotAt (e : Entry) (offset : Nat) : SlotNumber := e.slots.getD offset 0

/-- Entry n's shadow of an offset (R8, R9). -/
def State.shadow (s : State) (n : Index) (offset : Nat) : Word := (s.slot ((s.entry n).slotAt offset)).value

/-- Sets entry n's shadow of an offset (R9). -/
def State.setShadow (s : State) (n : Index) (offset : Nat) (v : Word) : State :=
  let k := (s.entry n).slotAt offset
  s.setSlot k { s.slot k with value := v }

/-- A host write to an unprimed word of a PRIMING entry: the slot takes the written lanes and marks them known (R14). -/
def State.markShadow (s : State) (n : Index) (offset : Nat) (lanes : Lanes) (data : Word) : State :=
  let k := (s.entry n).slotAt offset
  let slot := s.slot k
  s.setSlot k { slot with
    value := mergeLanes lanes slot.value data
    lowerKnown := slot.lowerKnown || lanes.lower
    upperKnown := slot.upperKnown || lanes.upper }

/-- Completes a slot from the value a prime read returned: known bytes stay, the others are taken from the read, and
both marks are cleared (R15). -/
def State.primeShadow (s : State) (n : Index) (offset : Nat) (read : Word) : State :=
  let k := (s.entry n).slotAt offset
  let slot := s.slot k
  s.setSlot k { slot with
    value := joinBytes (if slot.upperKnown then upperByte slot.value else upperByte read)
      (if slot.lowerKnown then lowerByte slot.value else lowerByte read)
    lowerKnown := false
    upperKnown := false }

/-- The free slots in ascending slot number (R6). -/
def State.freeSlots (s : State) : List SlotNumber := slotNumbers.filter fun k => !(s.slot k).held

/-- Claims slots for an entry: each becomes held, with value 0000h and both marks clear (R6). -/
def State.claimSlots (s : State) (ks : List SlotNumber) : State :=
  { ks.foldl (fun t k => t.setSlot k ⟨0, false, false, true⟩) s with freeCount := s.freeCount - ks.length }

/-- Takes slots back: each becomes free, with its value left as it was (R7). -/
def State.releaseSlots (s : State) (ks : List SlotNumber) (span : Nat) : State :=
  { ks.foldl (fun t k => t.setSlot k { t.slot k with held := false }) s with freeCount := s.freeCount + span }

/-! ## The Event Queue -/

/-- Replaces the list of a class. -/
def EventQueue.setList (q : EventQueue) (c : EventClass) (l : List Event) : EventQueue :=
  { q with lists := q.lists.set c.toNat l c.isLt }

/-- A 16-bit count one higher, saturating at 65535 (R43, R76). -/
def saturatingSucc (x : BitVec 16) : BitVec 16 := if x = 0xFFFF then x else x + 1

/-- Counts one event lost in a class: its lost total and its unreported lost count rise (R76). -/
def EventQueue.countLost (q : EventQueue) (c : EventClass) : EventQueue :=
  { q with
    lost := q.lost.set c.toNat (q.lostOf c + 1) c.isLt
    unreported := q.unreported.set c.toNat (saturatingSucc (q.unreportedOf c)) c.isLt }

/-- Appends an event at the young end of its class's list (R70). -/
def EventQueue.append (q : EventQueue) (e : Event) : EventQueue := q.setList e.cls (q.list e.cls ++ [e])

/-- What a full queue does with a newcomer (R75). -/
def EventQueue.arriveFull (q : EventQueue) (e : Event) : EventQueue :=
  match q.leastUrgent with
  | some z =>
    if e.cls.toNat < z.toNat then ((q.setList z (q.list z).dropLast).countLost z).append e
    else q.countLost e.cls
  | none => q.countLost e.cls

/-- The arrival of an event (R70, R75): the created total rises, and the event is appended or R75 decides. -/
def EventQueue.arrive (q : EventQueue) (e : Event) : EventQueue :=
  let q1 := { q with created := q.created + 1 }
  if q.depth < Config.queueCapacity then q1.append e else q1.arriveFull e

/-- The queue at the end of an act whose arrivals met a take that was `due` when the act began (R74). No loss was
unreported then, so an unreported loss now is of an arrival at the full queue that was dealt with before the take, and
the take stays to be made (DEDUCED, log 22). -/
def EventQueue.meetTake (q : EventQueue) (due : Bool) : EventQueue :=
  { q with takeMet := q.takeMet || (due && q.hasUnreported) }

/-- The take of the oldest event of the most urgent class present (R72): the event and the queue without it. -/
def EventQueue.take (q : EventQueue) : Option (Event × EventQueue) :=
  match q.mostUrgent with
  | none => none
  | some c =>
    match q.list c with
    | [] => none
    | e :: rest => some (e, q.setList c rest)

/-- A producer creates an event and hands it to the queue (R70). -/
def State.emit (s : State) (e : Event) : State := { s with queue := s.queue.arrive e }

/-- A take of an event by the Journal Writer is due (R72, R87): the writer stands ready, the queue holds an event, and
no loss is unreported. -/
def State.takeDue (s : State) : Bool :=
  s.journal.standsReady && decide (0 < s.queue.depth) && !s.queue.hasUnreported

/-- An act in which events may arrive began in state s and ends in state t: a take that was due in s has met the act's
arrivals, and was dealt with after them (R74; DEDUCED, log 22). A take that comes due only within the act meets none of
them: the writer begins its record after the act (R87), and a LOSS record if a loss is unreported then (R72). -/
def State.meetTake (s t : State) : State := { t with queue := t.queue.meetTake s.takeDue }

/-- Entry n creates an event of its class and tag, stamped with the tick counter; its event count rises (R2, R68). -/
def State.emitFor (s : State) (n : Index) (kind : EventKind) (offset : BitVec 4) (old new : Word)
    (count : BitVec 16) : State :=
  let e := s.entry n
  (s.setEntry n { e with eventCount := e.eventCount + 1 }).emit
    { kind := kind, cls := e.cls, index := n, offset := offset, old := old, new := new, tag := e.tag, count := count,
      time := s.timebase.tick }

/-! ## The control block and the part's own accesses -/

/-- The address of a control-block offset (R106): the CB base is CBSEL × 40000h. -/
def State.cb (s : State) (offset : Nat) : Addr := BitVec.ofNat 20 (s.proc.cbsel.toNat * 0x40000 + offset)

/-- A write of the part's own: the whole word, announced to no block (R134). -/
def State.writeWord (s : State) (a : Addr) (w : Word) : State := { s with mem := Memory.writeWord s.mem a w }

/-- A read of the part's own (R134). -/
def State.readWord (s : State) (a : Addr) : Word := Memory.readWord s.mem a

/-! ## The claims of the Command Processor -/

/-- The claim the processor presents next when none is presented: a REFUSAL write that waits goes ahead of its
current work (R108). -/
def Processor.nextClaim (p : Processor) : Option ClaimSource :=
  if p.refusalWaits then some .refusal else if p.workWaits then some .work else none

/-- Presents the processor's next claim, if none is presented (R108). -/
def Processor.present (p : Processor) : Processor := if p.claim.isSome then p else { p with claim := p.nextClaim }

/-- Replaces the Command Processor's state and presents the claim that state calls for. The grant of a claim presented
while the memory is free and no host access waits is a step of its own, the model's choice (DESIGN CHOICE, log 23). -/
def State.setProc (s : State) (p : Processor) : State := { s with proc := p.present }

/-- A command ends with a result: the processor becomes PUBLISHING and claims COMPLETION (R113). -/
def State.publish (s : State) (r : ResultCode) : State :=
  s.setProc { s.proc with state := .publishing, result := some r }

/-! ## The Port Arbiter -/

/-- The claimant after a claimant in the cyclic order (R137). -/
def Claimant.next : Claimant → Claimant
  | .processor => .writer
  | .writer => .scrubber
  | .scrubber => .processor

/-- The first claimant with a claim waiting, from the rotation pointer on (R137). -/
def State.rotationChoice (s : State) : Option Claimant :=
  let p := s.port.pointer
  [p, p.next, p.next.next].find? s.claims

/-- The guard count after a host grant (R136). -/
def State.guardAfterHostGrant (s : State) : Nat := if s.internalWaits then s.port.guard + 1 else 0

/-- Grants the host's access (R135, R136). A granted host write is being performed until it is taken. A granted host
read is taken in the act of the grant, and the host gets the word memory holds (R129; log 10). WAIT is deasserted
(R138). -/
def State.grantHost (s : State) (access : HostAccess) : State :=
  let p := { s.port with hostWaiting := none, guard := s.guardAfterHostGrant, wait := false }
  match access with
  | .read a => { s with port := { p with readData := s.readWord a } }
  | .write w => { s with port := { p with performing := some (.host w) } }

/-- Grants an internal claim: g becomes 0 and the pointer moves past the claimant (R136, R137). -/
def State.grantInternal (s : State) (c : Claimant) : State :=
  { s with port := { s.port with performing := some (.internal c), guard := 0, pointer := c.next } }

/-- The arbiter's grant, by the table of R135, when the memory is free and an access waits. Otherwise nothing. While
the reset input is asserted no claim exists and no access is held (R139). DESIGN CHOICE (log 23): R135 makes the grant
as soon as its condition holds; the model makes it by PORT_GRANT, or at the beginning of the next row that presents or
takes an access, and not in the act that presents a claim or frees the memory. -/
def State.grant (s : State) : State :=
  if s.port.resetAsserted || s.port.performing.isSome then s
  else
    match s.port.hostWaiting with
    | some access =>
      if s.internalWaits && decide (Config.guardLimit ≤ s.port.guard) then
        match s.rotationChoice with
        | some c => s.grantInternal c
        | none => s.grantHost access
      else s.grantHost access
    | none =>
      match s.rotationChoice with
      | some c => s.grantInternal c
      | none => s

/-- The memory becomes free: the access being performed has been taken (R135). The next grant is a step of its own, the
model's choice (DESIGN CHOICE, log 23). -/
def State.freePort (s : State) : State := { s with port := { s.port with performing := none } }

/-- An internal access of claimant c is to be taken: with the memory free the arbiter makes its grant (R135), and if
the access is then being performed it is taken, by `effect`. Otherwise it waits (log 12). -/
def State.takeInternal (s : State) (c : Claimant) (effect : State → State) : State :=
  let t := s.grant
  if t.port.performing = some (.internal c) then effect t.freePort else t

end Sys2Proof.Machine
end

