-- ==== Sys2Proof/Machine/Formats.lean ====
section
/-! DEFINITION. The words the part writes (chapter 10): COMPLETION, REFUSAL and PRESENCE (10.2), the records of the
ring (10.6), SUMMARY and ENTRY REPORT (10.5). Each bit no field occupies is 0 (R154). -/

namespace Sys2Proof.Machine

/-- The low half of a 32-bit quantity (R156). -/
def lowWord (x : BitVec 32) : Word := x.extractLsb' 0 16

/-- The high half of a 32-bit quantity (R156). -/
def highWord (x : BitVec 32) : Word := x.extractLsb' 16 16

/-! ## COMPLETION, REFUSAL and PRESENCE -/

/-- The code of a result (R113). -/
def ResultCode.code : ResultCode → BitVec 6
  | .done => 0x01
  | .busy => 0x02
  | .badop => 0x03
  | .inuse => 0x04
  | .notarmed => 0x05
  | .noroom => 0x06
  | .overlap => 0x07
  | .baddesc => 0x08
  | .mismatch => 0x09
  | .aborted => 0x0A
  | .partialWrite => 0x0B

/-- A COMPLETION or REFUSAL word: bits 15 to 10 the command tag, 9 to 4 the result code, 3 to 0 the opcode (10.2). -/
def resultWord (opcode : Opcode) (tag : CommandTag) (code : BitVec 6) : Word :=
  (tag ++ code ++ opcode : BitVec (6 + 6 + 4))

/-- The PRESENCE word: bits 7 to 0 the revision, 15 to 8 the start count (10.2). -/
def presenceWord (startCount : BitVec 8) : Word := (startCount ++ Config.revision : BitVec (8 + 8))

/-! ## Records -/

/-- The code of an event's kind in a record header (10.6). LOSS has code 7. -/
def EventKind.code : EventKind → BitVec 3
  | .edge => 0
  | .merged => 1
  | .stale => 2
  | .fresh => 3
  | .diverge => 4
  | .mark => 5
  | .notice => 6

/-- The kind code in a record's header (10.6). -/
def RecordContent.kindCode : RecordContent → BitVec 3
  | .event e => e.kind.code
  | .loss _ _ => 7

/-- A handed unreported lost count (R80). -/
def lossCount (counts : Vector (BitVec 16) 4) (c : EventClass) : BitVec 16 := counts[c.toNat]'c.isLt

/-- The class of a record (R90): the event's, or for a LOSS record the most urgent class with a count above 0. -/
def RecordContent.cls : RecordContent → EventClass
  | .event e => e.cls
  | .loss counts _ => (classes.find? fun c => lossCount counts c != 0).getD 0

/-- The entry index in a record's header (R90). -/
def RecordContent.index : RecordContent → Index
  | .event e => e.index
  | .loss _ _ => 0

/-- The total of a LOSS record: the sum of the four counts, saturating at 65535 (R92). -/
def lossTotal (counts : Vector (BitVec 16) 4) : Word :=
  BitVec.ofNat 16 (min 0xFFFF (classes.map fun c => (lossCount counts c).toNat).sum)

/-- The classes with losses: bit c set when class c's count was above 0 (R92). -/
def lossBitmap (counts : Vector (BitVec 16) 4) : Word :=
  let bit := fun c => BitVec.ofBool (lossCount counts c != 0)
  (0#12 ++ bit 3 ++ bit 2 ++ bit 1 ++ bit 0 : BitVec (12 + 1 + 1 + 1 + 1))

/-- The format bit: 1 FULL, 0 COMPACT (10.6). -/
def Format.bit : Format → BitVec 1
  | .full => 1
  | .compact => 0

/-- The header of a record: bit 15 valid, 14 to 12 kind, 11 and 10 class, 9 format, 8 lap, 5 to 0 entry index
(R90, 10.6). -/
def recordHeader (format : Format) (lap : Bool) (c : RecordContent) : Word :=
  (1#1 ++ c.kindCode ++ c.cls ++ format.bit ++ BitVec.ofBool lap ++ 0#2 ++ c.index : BitVec (1 + 3 + 2 + 1 + 1 + 2 + 6))

/-- Word w of the body of a FULL record, w from 1 to 7 (R91, R92). -/
def fullBody (c : RecordContent) (w : Nat) : Word :=
  match c with
  | .event e =>
    match w with
    | 1 => e.tag
    | 2 => e.offset.zeroExtend 16
    | 3 => e.old
    | 4 => e.new
    | 5 => lowWord e.time
    | 6 => highWord e.time
    | _ => e.count
  | .loss counts time =>
    match w with
    | 1 => lossTotal counts
    | 2 => lossCount counts 0
    | 3 => lossCount counts 1
    | 4 => lossCount counts 2
    | 5 => lowWord time
    | 6 => highWord time
    | _ => lossCount counts 3

/-- Word w of the body of a COMPACT record, w from 1 to 3 (R91, R92). -/
def compactBody (c : RecordContent) (w : Nat) : Word :=
  match c with
  | .event e =>
    match w with
    | 1 => e.tag
    | 2 => e.new
    | _ => lowWord e.time
  | .loss counts time =>
    match w with
    | 1 => lossTotal counts
    | 2 => lossBitmap counts
    | _ => lowWord time

/-- Word w of a record: word 0 is the header (R90). -/
def recordWord (format : Format) (lap : Bool) (c : RecordContent) (w : Nat) : Word :=
  if w = 0 then recordHeader format lap c
  else match format with
    | .full => fullBody c w
    | .compact => compactBody c w

/-! ## SUMMARY and ENTRY REPORT -/

/-- The code of the writer state (10.5). -/
def WriterState.code : WriterState → BitVec 2
  | .off => 0
  | .ready => 1
  | .full => 2
  | .writing => 3

/-- The code of an entry's state (10.5). -/
def EntryState.code : EntryState → BitVec 2
  | .free => 0
  | .priming => 1
  | .armed => 2
  | .suspended => 3

/-- The code of a holdoff state (10.5). -/
def HoldoffState.code : HoldoffState → BitVec 1
  | .quiet => 0
  | .holding => 1

/-- The code of a deadline state (10.5). -/
def DeadlineState.code : DeadlineState → BitVec 2
  | .off => 0
  | .running => 1
  | .stale => 2

/-- The number of entries that are not FREE (R3). -/
def State.nonFree (s : State) : Nat := entryNumbers.countP fun n => (s.entry n).state != .free

/-- The writer status word of SUMMARY (10.5): bits 1 and 0 the state, bit 8 urgent-pending, bit 9 the ATTN level. -/
def Journal.statusWord (j : Journal) : Word :=
  (0#6 ++ BitVec.ofBool j.attn ++ BitVec.ofBool j.urgentPending ++ 0#6 ++ j.state.code : BitVec (6 + 1 + 1 + 6 + 2))

/-- The unreported-losses word of SUMMARY (10.5): bit c set when class c has an unreported loss. -/
def EventQueue.unreportedWord (q : EventQueue) : Word := lossBitmap q.unreported

/-- The divisor most recently handed to the Timebase or set by reset (R119, R143). -/
def Timebase.latestDivisor (t : Timebase) : BitVec 16 := t.pendingDivisor.getD t.divisor

/-- The 24 SUMMARY words, in ascending offset from 020h (R119, 10.5). -/
def State.summaryWords (s : State) : List Word :=
  [ BitVec.ofNat 16 s.freeCount,
    BitVec.ofNat 16 s.nonFree,
    BitVec.ofNat 16 s.queue.depth,
    s.journal.statusWord,
    BitVec.ofNat 16 s.journal.produce,
    BitVec.ofNat 16 s.journal.consume,
    BitVec.ofNat 16 s.journal.occupancy,
    lowWord s.queue.created, highWord s.queue.created,
    lowWord s.queue.journaled, highWord s.queue.journaled,
    lowWord (s.queue.lostOf 0), highWord (s.queue.lostOf 0),
    lowWord (s.queue.lostOf 1), highWord (s.queue.lostOf 1),
    lowWord (s.queue.lostOf 2), highWord (s.queue.lostOf 2),
    lowWord (s.queue.lostOf 3), highWord (s.queue.lostOf 3),
    s.timebase.latestDivisor,
    s.scrubber.interval,
    lowWord s.timebase.tick, highWord s.timebase.tick,
    s.queue.unreportedWord ]

/-- The 32 ENTRY REPORT words of entry n, in ascending offset from 040h (R119, 10.5). -/
def State.reportWords (s : State) (n : Index) : List Word :=
  let e := s.entry n
  let shadows := (List.range 16).map fun k => if k < e.span.toNat then s.shadow n k else 0
  [ (0#6 ++ e.state.code ++ 0#2 ++ n : BitVec (6 + 2 + 2 + 6)),
    (0#6 ++ e.deadlineState.code ++ 0#7 ++ e.holdoffState.code : BitVec (6 + 2 + 7 + 1)),
    e.merge.count,
    (0#4 ++ e.missLimit ++ 0#4 ++ e.missCount : BitVec (4 + 4 + 4 + 4)),
    e.eventCount,
    e.base.extractLsb' 0 16,
    (0#3 ++ e.span ++ 0#4 ++ e.base.extractLsb' 16 4 : BitVec (3 + 5 + 4 + 4)),
    e.holdoffRemaining,
    e.deadlineRemaining ] ++ List.replicate 7 0 ++ shadows

/-- The values a SNAPSHOT of entry n captures, with the CB offset each is written to, in the order of the writes
(R119, R120). -/
def State.captureOf (s : State) (n : Index) : List (Nat × Word) :=
  (List.range 24).map (Config.cbSummary + ·) |>.zip s.summaryWords |>.append
    (((List.range 32).map (Config.cbReport + ·)).zip (s.reportWords n))

end Sys2Proof.Machine
end

