-- ==== Sys2Proof/Machine/Entries.lean ====
section
/-! DEFINITION. What an entry does by itself: holdoff and merges (chapter 3), deadlines (chapter 4). -/

namespace Sys2Proof.Machine

/-! ## Holdoff -/

/-- Entry n creates a MERGED event from its merge record and clears the record (R45). -/
def State.reportMerge (s : State) (n : Index) : State :=
  let m := (s.entry n).merge
  let s1 := s.emitFor n .merged m.offset m.old m.new m.count
  s1.setEntry n { s1.entry n with merge := .clear }

/-- Reports a pending merge, if there is one (R47 to R50). -/
def State.flushMerge (s : State) (n : Index) : State :=
  if (s.entry n).merge.count = 0 then s else s.reportMerge n

/-- The SUSPEND, DISARM and RETUNE flush (R48 to R50): the pending merge is reported, the merge record cleared and the
holdoff QUIET with nothing remaining. -/
def State.flushToQuiet (s : State) (n : Index) : State :=
  let s1 := s.flushMerge n
  s1.setEntry n { s1.entry n with merge := .clear, holdoffState := .quiet, holdoffRemaining := 0 }

/-- A trigger reaches the entry's holdoff (R36, R42, R43). -/
def State.trigger (s : State) (n : Index) (offset : Nat) (old new : Word) : State :=
  let e := s.entry n
  match e.holdoffState with
  | .holding =>
    s.setEntry n { e with
      merge := { count := saturatingSucc e.merge.count, offset := BitVec.ofNat 4 offset, old := old, new := new } }
  | .quiet =>
    let s1 := s.emitFor n .edge (BitVec.ofNat 4 offset) old new 1
    if e.holdoff = 0 then s1
    else s1.setEntry n { s1.entry n with holdoffState := .holding, holdoffRemaining := e.holdoff }

/-- The holdoff period of entry n expires (R44). -/
def State.expireHoldoff (s : State) (n : Index) : State :=
  let e := s.entry n
  if e.merge.count = 0 then s.setEntry n { e with holdoffState := .quiet, holdoffRemaining := 0 }
  else
    let s1 := s.reportMerge n
    s1.setEntry n { s1.entry n with holdoffRemaining := e.holdoff }

/-- The entry's holdoff timer is running and its period expires at the next tick event (R44). -/
def Entry.holdoffDue (e : Entry) : Bool := e.holdoffRuns && decide (e.holdoffRemaining.toNat ≤ 1)

/-- What a tick event does at entry n's holdoff (R44): the remaining time decreases, and at 0 the period expires. -/
def State.tickHoldoff (s : State) (n : Index) : State :=
  let e := s.entry n
  if e.holdoffDue then s.expireHoldoff n
  else if e.holdoffRuns then s.setEntry n { e with holdoffRemaining := e.holdoffRemaining - 1 }
  else s

/-! ## Deadlines -/

/-- The deadline fields of an entry whose deadline starts (R55), or is OFF because D = 0 or the entry is not ARMED. -/
def Entry.startDeadline (e : Entry) : Entry :=
  if e.state = .armed ∧ e.deadline ≠ 0 then
    { e with deadlineState := .running, deadlineRemaining := e.deadline, missCount := 0 }
  else { e with deadlineState := .off, deadlineRemaining := 0, missCount := 0 }

/-- A write reaches the deadline of an ARMED entry (R38, R59, R60). -/
def State.writeAtDeadline (s : State) (n : Index) (offset : Nat) (old new : Word) : State :=
  let e := s.entry n
  match e.deadlineState with
  | .off => s
  | .running => s.setEntry n { e with deadlineRemaining := e.deadline, missCount := 0 }
  | .stale =>
    let s1 := s.emitFor n .fresh (BitVec.ofNat 4 offset) old new (e.missLimit.zeroExtend 16)
    s1.setEntry n { s1.entry n with deadlineState := .running, deadlineRemaining := e.deadline, missCount := 0 }

/-- The deadline period of entry n expires (R57, R58). -/
def State.expireDeadline (s : State) (n : Index) : State :=
  let e := s.entry n
  if e.missCount.toNat + 1 < e.missLimit.toNat then
    s.setEntry n { e with missCount := e.missCount + 1, deadlineRemaining := e.deadline }
  else
    let v := s.shadow n 0
    let s1 := s.emitFor n .stale 0 v v (e.missLimit.zeroExtend 16)
    s1.setEntry n { s1.entry n with deadlineState := .stale, deadlineRemaining := 0, missCount := e.missLimit }

/-- The entry's deadline timer is running and its period expires at the next tick event (R62, R65: "the deadline
remaining is 1"). -/
def Entry.deadlineDue (e : Entry) : Bool := e.deadlineRuns && decide (e.deadlineRemaining.toNat ≤ 1)

/-- What a tick event does at entry n's deadline (R56): the remaining time decreases, and at 0 the period expires. -/
def State.tickDeadline (s : State) (n : Index) : State :=
  let e := s.entry n
  if e.deadlineDue then s.expireDeadline n
  else if e.deadlineRuns then s.setEntry n { e with deadlineRemaining := e.deadlineRemaining - 1 }
  else s

/-- What a tick event does at entry n: the holdoff before the deadline (R63). -/
def State.tickEntry (n : Index) (s : State) : State := (s.tickHoldoff n).tickDeadline n

end Sys2Proof.Machine
end

