-- ==== Sys2Proof/Machine/Judge.lean ====
section
/-! DEFINITION. The Transition Evaluator (chapter 2): the senses, and one host write at each entry that holds it. -/

namespace Sys2Proof.Machine

/-- The sense of an entry triggers on a write with this old and new value (R31 to R34). -/
def Entry.triggers (e : Entry) (old new : Word) : Bool :=
  let matchesPattern := fun (v : Word) => v &&& e.mask == e.pattern &&& e.mask
  match e.sense with
  | .rise => ~~~old &&& new &&& e.mask != 0
  | .fall => old &&& ~~~new &&& e.mask != 0
  | .either => (old ^^^ new) &&& e.mask != 0
  | .enter => matchesPattern new && !matchesPattern old
  | .leave => matchesPattern old && !matchesPattern new
  | .touch => true

/-- The offset of an address in an entry's span (R25). -/
def Entry.offsetOf (e : Entry) (a : Addr) : Nat := a.toNat - e.base.toNat

/-- The four steps of a write at an ARMED entry (R29): deadline hand-off, judgement, shadow update, trigger
hand-off. -/
def State.judgeArmed (s : State) (n : Index) (offset : Nat) (old new : Word) : State :=
  let triggered := (s.entry n).triggers old new
  let s1 := (s.writeAtDeadline n offset old new).setShadow n offset new
  if triggered then s1.trigger n offset old new else s1

/-- What a matched entry does with an announced host write (R26, R27). -/
def State.writeAtEntry (w : HostWrite) (n : Index) (s : State) : State :=
  let e := s.entry n
  let offset := e.offsetOf w.addr
  let old := s.shadow n offset
  let new := mergeLanes w.lanes old w.data
  match e.state with
  | .free => s
  | .priming =>
    if offset < e.primeProgress.toNat then s.setShadow n offset new else s.markShadow n offset w.lanes w.data
  | .suspended => s.setShadow n offset new
  | .armed => s.judgeArmed n offset old new

/-- The entries that hold an address, in ascending index (R25). -/
def State.holders (s : State) (a : Addr) : List Index := entryNumbers.filter fun n => (s.entry n).holds a

/-- The Evaluator deals with an announced host write (R24, R25). -/
def State.evaluate (s : State) (w : HostWrite) : State := s.forEach (s.holders w.addr) (State.writeAtEntry w)

end Sys2Proof.Machine
end

