-- ==== Sys2Proof/Machine/Writer.lean ====
section
/-! DEFINITION. The acts of the Journal Writer (chapter 6), over the Journal Writer, the Event Queue and memory. -/

namespace Sys2Proof.Machine

/-- Replaces the Journal Writer and recomputes ATTN (R99). -/
def State.setJournal (s : State) (j : Journal) : State := { s with journal := { j with attn := j.attnLevel } }

/-! ## Consume writes -/

/-- A legal consume write of V (R94, R98): C becomes V, and the urgent-pending flag is cleared when the new occupancy
is no greater than (P − U) mod 2L. -/
def Journal.applyConsume (j : Journal) (v : Nat) : Journal :=
  { j with
    consume := v
    urgentPending := j.urgentPending && decide (j.distance j.urgentIndex < j.distance v) }

/-- The NOTICE CONSUME_ERROR of a rejected consume write (R68, R95). -/
def State.consumeError (s : State) (v : Word) : Event where
  kind := .notice
  cls := 0
  index := 0
  offset := 0
  old := BitVec.ofNat 16 s.journal.consume
  new := v
  tag := 2
  count := 0
  time := s.timebase.tick

/-- The value V of a write to CONSUME: the consume image with the written lanes replaced (R95, R96). -/
def State.consumeValue (s : State) (lanes : Lanes) (data : Word) : Word :=
  mergeLanes lanes s.journal.consumeImage data

/-- The write is judged illegal: a ring is installed, and the write is a byte write or its value is illegal (R95). -/
def State.consumeRejected (s : State) (lanes : Lanes) (data : Word) : Bool :=
  s.journal.length != 0 && !(isFull lanes && s.journal.consumeLegal (s.consumeValue lanes data).toNat)

/-- The consume image takes the value the write leaves (R96). -/
def State.setConsumeImage (s : State) (v : Word) : State :=
  { s with journal := { s.journal with consumeImage := v } }

/-- What the Journal Writer does with a taken write to CONSUME with a lane enabled (R94 to R97), apart from the
CONSUME_ERROR event: the image is updated, and a legal write is applied. -/
def State.takeConsume (s : State) (lanes : Lanes) (data : Word) : State :=
  let v := s.consumeValue lanes data
  let s1 := s.setConsumeImage v
  if s.journal.length = 0 || s.consumeRejected lanes data then s1
  else s1.setJournal (s1.journal.applyConsume v.toNat)

/-- A write to CONSUME at its two receivers, the Evaluator and the Journal Writer (R132). Where the write creates both
an entry's event and a CONSUME_ERROR, their order is the free value of log 4 (R71). -/
def State.consumeAndEvaluate (s : State) (w : HostWrite) : State :=
  if s.consumeRejected w.lanes w.data then
    let error := s.consumeError (s.consumeValue w.lanes w.data)
    let s1 := s.takeConsume w.lanes w.data
    let judged := s1.evaluate w
    if judged.queue = s1.queue then judged.emit error
    else
      let t := if Config.consumeErrorFirst s.freeCounter then (s1.emit error).evaluate w else judged.emit error
      { t with freeCounter := s.freeCounter + 1 }
  else (s.takeConsume w.lanes w.data).evaluate w

/-! ## Records -/

/-- There is something to journal (R87). -/
def EventQueue.somethingToJournal (q : EventQueue) : Bool := q.hasUnreported || decide (0 < q.depth)

/-- The writer begins a record now (R87): it stands ready, and there is something to journal. That it begins the record
by a step of its own, and not in the act that makes the condition hold, is the model's choice (log 14). -/
def State.mayBegin (s : State) : Bool := s.journal.standsReady && s.queue.somethingToJournal

/-- The content of the record the writer begins, and the queue after it is handed over (R80, R87). A take of an event
that an arrival at the full queue has met stays a take of an event, whatever that arrival lost (R74; log 22). -/
def State.nextContent (s : State) : Option (RecordContent × EventQueue) :=
  if s.queue.hasUnreported && !s.queue.takeMet then
    some (.loss s.queue.unreported s.timebase.tick, { s.queue with unreported := Vector.replicate 4 0 })
  else
    match s.queue.take with
    | some (e, q) => some (.event e, { q with takeMet := false })
    | none => none

/-- The beginning of a record, as one act (R87). It presents the first write of the record, and the grant of that write
is a step of its own, the model's choice (DESIGN CHOICE, log 23). -/
def State.begin (s : State) : State :=
  match s.nextContent with
  | some (content, q) =>
    { s with
      queue := q
      journal := { s.journal with record := some { content := content, index := s.journal.produce, wordsTaken := 0 } } }
  | none => s

/-- The word of a record that its k-th write carries, k from 0: words 1 to N − 1 and then the header (R88). -/
def recordOrder (n k : Nat) : Nat := if k + 1 < n then k + 1 else 0

/-- The next word of a record in flight reaches memory (R88, R89). -/
def State.writeRecordWord (r : RecordInFlight) (s : State) : State :=
  let j := s.journal
  let w := recordOrder (recordWords j.format) r.wordsTaken
  let s1 := s.writeWord (j.recordAddr (j.slotOf r.index) w) (recordWord j.format (j.lapOf r.index) r.content w)
  { s1 with journal := { j with record := some { r with wordsTaken := r.wordsTaken + 1 } } }

/-- A waiting install request is taken: the writer claims PRODUCE with 0 (R101). -/
def Journal.takeRequest (j : Journal) : Journal :=
  { j with install := j.install.map fun r => { r with taken := true } }

/-- The journaled total after a publication: an event's record raises it, a LOSS record does not (R73, R88). -/
def EventQueue.countJournaled (q : EventQueue) : RecordContent → EventQueue
  | .event _ => { q with journaled := q.journaled + 1 }
  | .loss _ _ => q

/-- The Journal Writer after the publication of a record (R88, R98): P advances, a class-0 record sets the
urgent-pending flag and U, nothing is in flight, and a waiting install request is taken in the same act (R101). -/
def Journal.published (j : Journal) (content : RecordContent) : Journal :=
  let p := j.next j.produce
  let urgent := content.cls == 0
  Journal.takeRequest { j with
    produce := p
    urgentPending := urgent || j.urgentPending
    urgentIndex := if urgent then p else j.urgentIndex
    record := none }

/-- The PRODUCE write of a record is taken (R88). -/
def State.publishRecord (r : RecordInFlight) (s : State) : State :=
  let s1 := s.writeWord (s.cb Config.cbProduce) (BitVec.ofNat 16 (s.journal.next s.journal.produce))
  { s1.setJournal (s.journal.published r.content) with queue := s.queue.countJournaled r.content }

/-! ## Installation -/

/-- The writer takes a waiting install request when it is not WRITING (R101), by a step of its own (log 14), and
presents its PRODUCE write. The grant of that write is a step of its own, the model's choice (DESIGN CHOICE, log 23).
-/
def State.takeInstallRequest (s : State) : State :=
  match s.journal.install with
  | some r =>
    if !r.taken && s.journal.record.isNone then { s with journal := s.journal.takeRequest } else s
  | none => s

/-- The Journal Writer right after the installation of a ring (R102); the consume image stays (R96). -/
def Journal.installed (j : Journal) (r : InstallRequest) : Journal :=
  { j with
    base := r.base
    length := r.length
    format := r.format
    threshold := r.threshold
    produce := 0
    consume := 0
    urgentIndex := 0
    urgentPending := false
    install := none }

/-- The NOTICE JOURNAL_START of an installation (R68, R123). -/
def State.journalStart (s : State) : Event where
  kind := .notice
  cls := 0
  index := 0
  offset := 0
  old := 0
  new := 0
  tag := 1
  count := 0
  time := s.timebase.tick

/-- The PRODUCE write of 0 of an installation is taken (R102), and the Command Processor learns of it (R123): with
L > 0 it creates JOURNAL_START, and it claims COMPLETION with DONE. The new ring's first record is begun after this act
(R87), so JOURNAL_START meets no take, and a take it might have met in the old ring is not made (R101; log 22). -/
def State.install (r : InstallRequest) (s : State) : State :=
  let s1 := s.writeWord (s.cb Config.cbProduce) 0
  let s2 := if r.length = 0 then s1 else s1.emit s1.journalStart
  let s3 := { s2 with queue := { s2.queue with takeMet := false } }
  (s3.setJournal (s3.journal.installed r)).publish .done

end Sys2Proof.Machine
end

