-- ==== Sys2Proof/Machine/Requests.lean ====
section
/-! DEFINITION. The requests the Command Processor makes of the Watch Table, the Journal Writer, the Timebase and the
Scrubber (chapters 1, 3, 7, 9). A Watch Table request gives the state after it and its result. -/

namespace Sys2Proof.Machine

/-! ## Forbidden places -/

/-- The ring of a Journal Writer state covers a word of a run (R10, R84). -/
def Journal.covers (j : Journal) (first count : Nat) : Bool :=
  runsMeet first count j.base.toNat (j.length * recordWords j.format)

/-- A run of words holds a part-owned word of the control block (R10). -/
def State.partOwned (s : State) (first count : Nat) : Bool :=
  let cb := (s.cb 0).toNat
  runsMeet first count (cb + Config.cbCompletion) 4
    || runsMeet first count (cb + Config.cbSummary) 24
    || runsMeet first count (cb + Config.cbReport) 32

/-- A run of words lies, in whole or in part, in a forbidden place (R10). -/
def State.forbidden (s : State) (first count : Nat) : Bool := s.journal.covers first count || s.partOwned first count

/-! ## Entry requests -/

/-- The rule fields a descriptor gives, set in an entry (R12, R22). -/
def Entry.withRule (e : Entry) (d : Descriptor) : Entry :=
  { e with
    sense := (senseOf d.senseCode).getD .rise
    mask := d.mask
    pattern := d.pattern
    cls := d.cls
    tag := d.tag
    holdoff := d.holdoff
    deadline := d.deadline
    missLimit := d.missLimit }

/-- The entry a LOAD that passes its checks puts into PRIMING (R12). -/
def loadedEntry (d : Descriptor) (ks : List SlotNumber) : Entry :=
  Entry.withRule
    { Entry.free with
      state := .priming
      base := d.base
      span := d.span
      primingTarget := if d.startSuspended then .suspended else .armed
      slots := ks }
    d

/-- The first check of R12 that a LOAD of entry n fails. -/
def State.loadCheck (s : State) (n : Index) (d : Descriptor) : Option ResultCode :=
  if (s.entry n).state ≠ .free then some .inuse
  else if d.illegal then some .baddesc
  else if s.freeCount < d.span.toNat then some .noroom
  else if s.forbidden d.base.toNat d.span.toNat then some .overlap
  else none

/-- The table takes a LOAD whose checks pass: the slots are claimed and the entry is PRIMING (R6, R12). -/
def State.loadEntry (s : State) (n : Index) (d : Descriptor) : State :=
  let ks := s.freeSlots.take d.span.toNat
  (s.claimSlots ks).setEntry n (loadedEntry d ks)

/-- The scrub claim of entry n, if outstanding, is voided (R151). -/
def Scrubber.voidClaim (sc : Scrubber) (n : Index) : Scrubber :=
  { sc with claim := sc.claim.map fun c => if c.entry = n then { c with void := true } else c }

/-- Frees entry n: every field returns to zero and its slots to the Shadow Store (R7, R19); a scrub claim of the entry
is voided in the same act (R151). -/
def State.freeEntry (s : State) (n : Index) : State :=
  let e := s.entry n
  let s1 := (s.releaseSlots e.slots e.span.toNat).setEntry n .free
  { s1 with scrubber := s1.scrubber.voidClaim n }

/-- The table takes a DISARM of entry n (R19, R49). -/
def State.disarmRequest (s : State) (n : Index) : State × ResultCode :=
  match (s.entry n).state with
  | .free => (s, .notarmed)
  | .priming => (s, .notarmed)
  | .armed => ((s.flushMerge n).freeEntry n, .done)
  | .suspended => ((s.flushMerge n).freeEntry n, .done)

/-- The table takes a SUSPEND of entry n (R20, R48, R64). -/
def State.suspendRequest (s : State) (n : Index) : State × ResultCode :=
  match (s.entry n).state with
  | .free => (s, .notarmed)
  | .priming => (s, .notarmed)
  | .suspended => (s, .done)
  | .armed =>
    let s1 := s.flushToQuiet n
    (s1.setEntry n { s1.entry n with
      state := .suspended, deadlineState := .off, deadlineRemaining := 0, missCount := 0 }, .done)

/-- The table takes a RESUME of entry n (R21, R55). -/
def State.resumeRequest (s : State) (n : Index) : State × ResultCode :=
  match (s.entry n).state with
  | .free => (s, .notarmed)
  | .priming => (s, .notarmed)
  | .armed => (s, .done)
  | .suspended => (s.setEntry n (Entry.startDeadline { s.entry n with state := .armed, holdoffState := .quiet }), .done)

/-- The first check of R22 that a RETUNE of entry n fails. -/
def State.retuneCheck (s : State) (n : Index) (d : Descriptor) : Option ResultCode :=
  let e := s.entry n
  if e.state = .free ∨ e.state = .priming then some .notarmed
  else if d.illegal then some .baddesc
  else if e.base ≠ d.base ∨ e.span ≠ d.span then some .mismatch
  else none

/-- The table takes a RETUNE of entry n (R22, R50, R64). -/
def State.retuneRequest (s : State) (n : Index) (d : Descriptor) : State × ResultCode :=
  match s.retuneCheck n d with
  | some r => (s, r)
  | none =>
    let s1 := s.flushToQuiet n
    (s1.setEntry n ((s1.entry n).withRule d).startDeadline, .done)

/-- The entries with a merge to flush, in ascending index (R47). -/
def State.mergers (s : State) : List Index :=
  entryNumbers.filter fun n => (s.entry n).state == .armed && (s.entry n).merge.count != 0

/-- The table takes a FLUSH (R47). -/
def State.flushRequest (s : State) : State := s.forEach s.mergers fun n t => t.reportMerge n

/-! ## JOURNAL and TIMEBASE -/

/-- The first check of R122 that a JOURNAL with these words read fails. -/
def State.journalCheck (s : State) (ws : List Word) : Option ResultCode :=
  let r := installRequestOf ws
  let words := r.length * recordWords r.format
  if journalSpareSet ws then some .baddesc
  else if r.length ≠ 0 ∧ (r.length < 4 ∨ 4096 < r.length) then some .baddesc
  else if 0 < r.length ∧ (r.threshold < 1 ∨ r.length < r.threshold) then some .baddesc
  else if 0 < r.length ∧ 0xFFFFF < r.base.toNat + words - 1 then some .baddesc
  else if runsMeet r.base.toNat words (s.cb 0).toNat Config.cbWords then some .overlap
  else if entryNumbers.any (fun n => (s.entry n).state != .free
      && runsMeet r.base.toNat words (s.entry n).base.toNat (s.entry n).span.toNat) then some .overlap
  else none

/-- An accepted TIMEBASE (R124, R145, R148): the divisor is handed to the Timebase and the scrub countdown restarts
with the new interval, or stops when it is 0. -/
def State.acceptTimebase (s : State) (divisor interval : BitVec 16) : State :=
  { s with
    timebase := { s.timebase with pendingDivisor := some divisor }
    scrubber := { s.scrubber with interval := interval, countdown := interval, running := interval != 0 } }

/-- The MARK event (R68, R121). -/
def State.markEvent (s : State) (operand : Index) (argument : Word) : Event where
  kind := .mark
  cls := markClass operand
  index := 0
  offset := 0
  old := 0
  new := 0
  tag := argument
  count := 0
  time := s.timebase.tick

end Sys2Proof.Machine
end

