-- ==== Sys2Proof/Machine/Processor.lean ====
section
/-! DEFINITION. The Command Processor (chapter 7): examining a COMMAND write, taking a command, its reads, and what it
does when the last of them is taken; RESTART and pin reset. -/

namespace Sys2Proof.Machine

/-! ## Resets -/

/-- The Watch Table, Shadow Store, Event Queue, Journal Writer and Scrubber at the values that pin reset and RESTART
share (R23, R53, R66, R83, R104, R152), and the arbiter at its own (R139). -/
def State.resetBlocks (s : State) : State :=
  { s with
    entries := Vector.replicate 64 .free
    slots := Vector.replicate 256 .reset
    freeCount := Config.shadowSlots
    queue := .reset
    journal := .reset
    scrubber := .reset
    port := .reset s.port.readData s.port.resetAsserted }

/-- The start-up writes after a RESTART (R127). -/
def restartWrites (owed : Option OwedAborted) : List StartupWrite :=
  if owed.isSome then [.aborted, .presence, .produce, .restartDone] else [.presence, .produce, .restartDone]

/-- The ABORTED completion a RESTART owes (R107, R127): for the command in the slot, or the one an earlier start-up
still owed. -/
def Processor.owedByRestart (p : Processor) : Option OwedAborted :=
  match p.slot with
  | some c => some ⟨c.opcode, c.tag⟩
  | none => p.owedAborted

/-- The Command Processor in the act of a RESTART (R126, R127), before its first claim. -/
def Processor.restarted (p : Processor) (tag : CommandTag) : Processor :=
  { Processor.reset p.cbsel with
    restartTag := some tag
    owedAborted := p.owedByRestart
    startupWrites := restartWrites p.owedByRestart
    pendingRefusal := none
    startCount := p.startCount + 1 }

/-- A RESTART is taken (R126): every block returns to its reset values, the Timebase is handed 25000 and keeps its
tick counter, its phase and its divisor in force (R145), and the processor is STARTING. -/
def State.restart (s : State) (tag : CommandTag) : State :=
  { s.resetBlocks with timebase := { s.timebase with pendingDivisor := some Config.resetDivisor } }.setProc
    (s.proc.restarted tag)

/-! ## Refusals -/

/-- A refusal arises: its REFUSAL write becomes pending, and is claimed if none was (R112). -/
def State.refuse (s : State) (w : Word) (r : ResultCode) : State :=
  s.setProc { s.proc with pendingRefusal := some (resultWord (opcodeOf w) (tagOf w) r.code) }

/-- The word that a byte write to COMMAND is reported by: the written byte in its own lane, the other lane 0 (R112). -/
def partialCommand (lanes : Lanes) (data : Word) : Word := mergeLanes lanes 0 data

/-! ## Taking a command -/

/-- The command goes into the slot and the processor is READING its first word (R111, R114). -/
def State.beginReading (s : State) (c : CommandSlot) : State :=
  s.setProc { s.proc with state := .reading, slot := some c, readWords := [], result := none, capture := [] }

/-- The command goes into the slot and its result is known: the processor is PUBLISHING (R111, R113). -/
def State.beginPublishing (s : State) (c : CommandSlot) (r : ResultCode) (capture : List (Nat × Word)) : State :=
  s.setProc { s.proc with
    state := .publishing, slot := some c, readWords := [], result := some r, capture := capture }

/-- A command from opcode 1 to 14 is taken at IDLE (R111). -/
def State.takeCommand (s : State) (c : CommandSlot) : State :=
  match c.opcode.toNat with
  | 1 => s.beginReading c
  | 2 => let (t, r) := s.disarmRequest c.operand; t.beginPublishing c r []
  | 3 => let (t, r) := s.suspendRequest c.operand; t.beginPublishing c r []
  | 4 => let (t, r) := s.resumeRequest c.operand; t.beginPublishing c r []
  | 5 => s.beginReading c
  | 6 => s.beginPublishing c .done (s.captureOf c.operand)
  | 7 => s.flushRequest.beginPublishing c .done []
  | 8 => s.beginReading c
  | 9 => s.beginReading c
  | 10 => s.beginReading c
  | _ => s.beginPublishing c .badop []

/-- The Command Processor examines a write to COMMAND (R110). -/
def State.examine (s : State) (lanes : Lanes) (data : Word) : State :=
  if !anyLane lanes then s
  else if !isFull lanes then s.refuse (partialCommand lanes data) .partialWrite
  else if opcodeOf data = 0 then s
  else if opcodeOf data = 15 then s.restart (tagOf data)
  else if s.proc.state = .idle then
    s.takeCommand { opcode := opcodeOf data, operand := operandOf data, tag := tagOf data }
  else s.refuse data .busy

/-! ## A taken host write -/

/-- What a taken host write does (R130 to R132), its events' meeting with a take apart: memory takes the enabled lanes,
and the write is announced to the Evaluator, to the Command Processor when it is to COMMAND, and to the Journal Writer
when it is to CONSUME. The Evaluator's judgement of a COMMAND write comes before the request the command makes (R40). A
no-lane write has no further effect (R131). -/
def State.announceWrite (w : HostWrite) (s : State) : State :=
  let s1 := { s with mem := Memory.writeLanes s.mem w.addr w.lanes w.data }
  if !anyLane w.lanes then s1
  else if w.addr = s.cb Config.cbConsume then s1.consumeAndEvaluate w
  else if w.addr = s.cb Config.cbCommand then (s1.evaluate w).examine w.lanes w.data
  else s1.evaluate w

/-- A host write is taken (R132), as one act. -/
def State.hostWriteTaken (w : HostWrite) (s : State) : State := s.meetTake (s.announceWrite w)

/-! ## The reads of a command -/

/-- How many words a command reads (R114). -/
def wordsToRead (opcode : Opcode) : Nat :=
  match opcode.toNat with
  | 1 => 8
  | 5 => 8
  | 8 => 1
  | 9 => 4
  | 10 => 2
  | _ => 0

/-- The CB offset of the k-th word a command reads (R114). -/
def readOffset (c : CommandSlot) (k : Nat) : Nat :=
  match c.opcode.toNat with
  | 1 => Config.cbDescriptors + 8 * c.operand.toNat + k
  | 5 => Config.cbDescriptors + 8 * c.operand.toNat + k
  | 8 => Config.cbArgument + k
  | 9 => Config.cbJournal + k
  | _ => Config.cbTimebase + k

/-- The Watch Table takes a LOAD after its last descriptor read (R12, R115). -/
def State.finishLoad (s : State) (n : Index) (d : Descriptor) : State :=
  match s.loadCheck n d with
  | some r => s.publish r
  | none => (s.loadEntry n d).setProc { s.proc with state := .filling }

/-- The Watch Table takes a RETUNE after its last descriptor read (R22, R116). -/
def State.finishRetune (s : State) (n : Index) (d : Descriptor) : State :=
  let (t, r) := s.retuneRequest n d
  t.publish r

/-- A MARK after its ARGUMENT read (R121). -/
def State.finishMark (s : State) (operand : Index) (argument : Word) : State :=
  (s.emit (s.markEvent operand argument)).publish .done

/-- A JOURNAL after its last descriptor read (R122, R123): a failed check ends it, and otherwise the install request
is handed to the Journal Writer and the processor is WAITING. -/
def State.finishJournal (s : State) (ws : List Word) : State :=
  match s.journalCheck ws with
  | some r => s.publish r
  | none =>
    { s with journal := { s.journal with install := some (installRequestOf ws) } }.setProc
      { s.proc with state := .waiting }

/-- A TIMEBASE after its second read (R124). -/
def State.finishTimebase (s : State) (ws : List Word) : State :=
  if wordAt ws 0 = 0 then s.publish .baddesc
  else (s.acceptTimebase (wordAt ws 0) (wordAt ws 1)).publish .done

/-- What the processor does in the act in which the last read of the command in the slot is taken. -/
def State.finishReading (s : State) (c : CommandSlot) (ws : List Word) : State :=
  match c.opcode.toNat with
  | 1 => s.finishLoad c.operand (descriptorOf ws)
  | 5 => s.finishRetune c.operand (descriptorOf ws)
  | 8 => s.finishMark c.operand (wordAt ws 0)
  | 9 => s.finishJournal ws
  | _ => s.finishTimebase ws

/-- A read of the command in the slot is taken (R114), as one act: the value is kept, and after the last one the command
goes on. Its claim is no longer presented. -/
def State.commandReadTaken (c : CommandSlot) (s : State) : State :=
  let w := s.readWord (s.cb (readOffset c s.proc.readWords.length))
  let ws := s.proc.readWords ++ [w]
  let p := { s.proc with claim := none, readWords := ws }
  if ws.length < wordsToRead c.opcode then s.setProc p
  else s.meetTake ({ s with proc := p }.finishReading c ws)

/-! ## Prime reads -/

/-- An entry at the end of its priming (R17, R55). -/
def Entry.primed (e : Entry) : Entry :=
  match e.primingTarget with
  | .armed => Entry.startDeadline { e with state := .armed, holdoffState := .quiet }
  | .suspended => Entry.startDeadline { e with state := .suspended, holdoffState := .quiet }

/-- A prime read of the LOAD of entry n is taken (R13, R15, R17). -/
def State.primeReadTaken (n : Index) (s : State) : State :=
  let k := (s.entry n).primeProgress.toNat
  let w := s.readWord ((s.entry n).base + BitVec.ofNat 20 k)
  let s1 := s.primeShadow n k w
  let e := { s1.entry n with primeProgress := (s1.entry n).primeProgress + 1 }
  let p := { s.proc with claim := none }
  if k + 1 < e.span.toNat then (s1.setEntry n e).setProc p
  else ({ s1.setEntry n e.primed with proc := p }).publish .done

/-! ## The processor's writes -/

/-- The word a COMPLETION write carries: the command in the slot and its result (R113). -/
def Processor.completionWord (p : Processor) : Word :=
  match p.slot with
  | some c => resultWord c.opcode c.tag (match p.result with | some r => r.code | none => 0)
  | none => 0

/-- The COMPLETION write of the command in the slot is taken: the slot is emptied and the processor is IDLE (R113). -/
def State.completionTaken (s : State) : State :=
  (s.writeWord (s.cb Config.cbCompletion) s.proc.completionWord).setProc
    { s.proc with claim := none, state := .idle, slot := none, readWords := [], result := none }

/-- The REFUSAL write is taken: nothing is pending (R112). -/
def State.refusalTaken (s : State) : State :=
  (s.writeWord (s.cb Config.cbRefusal) (s.proc.pendingRefusal.getD 0)).setProc
    { s.proc with claim := none, pendingRefusal := none }

/-- One word of a SNAPSHOT's write-out is taken (R120). -/
def State.snapshotWordTaken (word : Nat × Word) (rest : List (Nat × Word)) (s : State) : State :=
  (s.writeWord (s.cb word.1) word.2).setProc { s.proc with claim := none, capture := rest }

/-- The CB offset and the value of a start-up write (R109, R127). -/
def Processor.startupWord (p : Processor) : StartupWrite → Nat × Word
  | .zeroCompletion => (Config.cbCompletion, 0)
  | .refusal => (Config.cbRefusal, p.pendingRefusal.getD 0)
  | .aborted =>
    (Config.cbCompletion,
      match p.owedAborted with
      | some c => resultWord c.opcode c.tag ResultCode.aborted.code
      | none => 0)
  | .presence => (Config.cbPresence, presenceWord p.startCount)
  | .produce => (Config.cbProduce, 0)
  | .restartDone => (Config.cbCompletion, resultWord 15 (p.restartTag.getD 0) ResultCode.done.code)

/-- The Command Processor after a start-up write is taken (R107, R109, R127): after the REFUSAL write nothing is
pending, after the ABORTED completion none is owed, and after the last write the processor is IDLE and the start-up
record empty. -/
def Processor.afterStartup (p : Processor) (w : StartupWrite) (rest : List StartupWrite) : Processor :=
  let p1 := { p with claim := none, startupWrites := rest }
  let p2 := match w with
    | .refusal => { p1 with pendingRefusal := none }
    | .aborted => { p1 with owedAborted := none }
    | .zeroCompletion | .presence | .produce | .restartDone => p1
  if rest.isEmpty then { p2 with state := .idle, restartTag := none, owedAborted := none } else p2

/-- A start-up write is taken (R109, R127). -/
def State.startupWriteTaken (w : StartupWrite) (rest : List StartupWrite) (s : State) : State :=
  let (offset, v) := s.proc.startupWord w
  (s.writeWord (s.cb offset) v).setProc (s.proc.afterStartup w rest)

end Sys2Proof.Machine
end

