-- ==== Sys2Proof/Machine/HostPort.lean ====
section
/-! DEFINITION. Host accesses at the Memory Port (chapter 8), and pin reset (R109, R139). -/

namespace Sys2Proof.Machine

/-- While the reset input is asserted a host access is forwarded to memory as it is presented, and announced to no
block (R139). -/
def State.forward (access : HostAccess) (s : State) : State :=
  match access with
  | .read a => { s with port := { s.port with readData := s.readWord a } }
  | .write w => { s with mem := Memory.writeLanes s.mem w.addr w.lanes w.data }

/-- The host has an access in progress: presented and not granted, or granted and not yet taken (R138). -/
def State.hostInProgress (s : State) : Bool :=
  s.port.hostWaiting.isSome || (match s.port.performing with | some (.host _) => true | _ => false)

/-- The host presents an access: WAIT is asserted unless it is granted at once (R135, R138). -/
def State.present (access : HostAccess) (s : State) : State :=
  State.grant { s with port := { s.port with hostWaiting := some access, wait := true } }

/-- A host write is to be taken (log 9). If the host's access is being performed, this is its taking, with the address,
lanes and data the host now drives (R132). If not, the write is presented, and it is taken at once when the arbiter
grants it (R135). Otherwise it waits, with WAIT asserted and no other effect (R132, R138). While the reset input is
asserted it is forwarded to memory (R139). -/
def State.takeHostWrite (w : HostWrite) (s : State) : State :=
  if s.port.resetAsserted then s.forward (.write w)
  else
    match s.port.performing with
    | some (.host _) => s.freePort.hostWriteTaken w
    | _ =>
      let t := s.present (.write w)
      match t.port.performing with
      | some (.host v) => t.freePort.hostWriteTaken v
      | _ => t

/-- A full host write of a command word to COMMAND. -/
def State.commandWrite (s : State) (opcode : Opcode) (operand : Index) (tag : CommandTag) : HostWrite where
  addr := s.cb Config.cbCommand
  lanes := Lanes.both
  data := commandWord opcode operand tag

/-- A host write of a command word to COMMAND is to be taken (R110). -/
def State.takeCommandWrite (s : State) (opcode : Opcode) (operand : Index) (tag : CommandTag) : State :=
  s.takeHostWrite (s.commandWrite opcode operand tag)

/-- Pin reset is applied while a host access is in progress: the access is forwarded to memory and announced to no
block (R139; log 15). -/
def State.forwardHeld (s : State) : State :=
  match s.port.performing with
  | some (.host w) => s.forward (.write w)
  | _ =>
    match s.port.hostWaiting with
    | some access => s.forward access
    | none => s

/-- Every block at its pin-reset values (R23, R83, R105, R107, R139, R143, R147), with the reset input at a level and
no internal claim. Memory is kept (11, section 11.2), and so are the host's read data and the straps last sampled. -/
def State.pinResetValues (s : State) (asserted : Bool) : State :=
  { s.resetBlocks with
    proc := Processor.reset s.proc.cbsel
    port := .reset s.port.readData asserted
    timebase := .reset }

/-- The reset input is asserted (R139). -/
def State.assertReset (s : State) : State := s.forwardHeld.pinResetValues true

/-- The number the straps give: CBSEL1 is the more significant bit (R106). -/
def strapNumber (cbsel1 cbsel0 : Bool) : BitVec 2 := (BitVec.ofBool cbsel1 ++ BitVec.ofBool cbsel0 : BitVec (1 + 1))

/-- The reset input is released (R109): the straps are sampled, every block takes its pin-reset values, and the Command
Processor is STARTING and claims its first start-up write. -/
def State.releaseReset (s : State) (cbsel : BitVec 2) : State :=
  (s.forwardHeld.pinResetValues false).setProc (Processor.reset cbsel)

end Sys2Proof.Machine
end

