-- ==== Sys2Proof/Machine/Commands.lean ====
section
/-! DEFINITION. The meanings of the commands that software writes to COMMAND: each is a full host write of its command
word (R110, R111). Taken at IDLE, the command begins; in any other state it is refused with BUSY, RESTART excepted. -/

namespace Sys2Proof.Machine

/-- LOAD, opcode 1 (R115): READING, claims the read of d0. -/
def execLoad (entry : Index) (tag : CommandTag) (s : State) : Host.Outcome State Fault Refusal :=
  .next (s.takeCommandWrite 1 entry tag)

/-- DISARM, opcode 2 (R19, R117). -/
def execDisarm (entry : Index) (tag : CommandTag) (s : State) : Host.Outcome State Fault Refusal :=
  .next (s.takeCommandWrite 2 entry tag)

/-- SUSPEND, opcode 3 (R20, R117). -/
def execSuspend (entry : Index) (tag : CommandTag) (s : State) : Host.Outcome State Fault Refusal :=
  .next (s.takeCommandWrite 3 entry tag)

/-- RESUME, opcode 4 (R21, R117). -/
def execResume (entry : Index) (tag : CommandTag) (s : State) : Host.Outcome State Fault Refusal :=
  .next (s.takeCommandWrite 4 entry tag)

/-- RETUNE, opcode 5 (R116): READING, claims the read of d0. -/
def execRetune (entry : Index) (tag : CommandTag) (s : State) : Host.Outcome State Fault Refusal :=
  .next (s.takeCommandWrite 5 entry tag)

/-- SNAPSHOT, opcode 6 (R119): capture and PUBLISHING. -/
def execSnapshot (entry : Index) (tag : CommandTag) (s : State) : Host.Outcome State Fault Refusal :=
  .next (s.takeCommandWrite 6 entry tag)

/-- FLUSH, opcode 7 (R47, R118). -/
def execFlush (operand : Index) (tag : CommandTag) (s : State) : Host.Outcome State Fault Refusal :=
  .next (s.takeCommandWrite 7 operand tag)

/-- MARK, opcode 8 (R121): READING, claims the read of ARGUMENT. -/
def execMark (operand : Index) (tag : CommandTag) (s : State) : Host.Outcome State Fault Refusal :=
  .next (s.takeCommandWrite 8 operand tag)

/-- JOURNAL, opcode 9 (R122): READING, claims the read of CB + 004h. -/
def execJournal (operand : Index) (tag : CommandTag) (s : State) : Host.Outcome State Fault Refusal :=
  .next (s.takeCommandWrite 9 operand tag)

/-- TIMEBASE, opcode 10 (R124): READING, claims the read of CB + 008h. -/
def execTimebase (operand : Index) (tag : CommandTag) (s : State) : Host.Outcome State Fault Refusal :=
  .next (s.takeCommandWrite 10 operand tag)

/-- BADOP, opcodes 11 to 14 (R125). -/
def execBadop (opcode : Opcode) (operand : Index) (tag : CommandTag) (s : State) : Host.Outcome State Fault Refusal :=
  .next (s.takeCommandWrite opcode operand tag)

/-- RESTART, opcode 15 (R126): taken in every processor state. -/
def execRestart (operand : Index) (tag : CommandTag) (s : State) : Host.Outcome State Fault Refusal :=
  .next (s.takeCommandWrite 15 operand tag)

end Sys2Proof.Machine
end

