-- ==== Sys2Proof/Machine/HostAccesses.lean ====
section
/-! DEFINITION. The meanings of HOST_WRITE, CONSUME, HOST_ACCESS_PRESENTED, PORT_GRANT and
MEMORY_SIDE_AGENT_WRITE. -/

namespace Sys2Proof.Machine

/-- HOST_WRITE (R24 to R40, R130 to R132, R140 to R142): a host write of any word. -/
def execHostWrite (addr : Addr) (lanes : Lanes) (data : Word) (s : State) : Host.Outcome State Fault Refusal :=
  .next (s.takeHostWrite { addr := addr, lanes := lanes, data := data })

/-- CONSUME (R94 to R97): a host write to the CONSUME word. -/
def execConsume (lanes : Lanes) (data : Word) (s : State) : Host.Outcome State Fault Refusal :=
  .next (s.takeHostWrite { addr := s.cb Config.cbConsume, lanes := lanes, data := data })

/-- HOST_ACCESS_PRESENTED (R135, R138). While the reset input is asserted the access is forwarded at once (R139). While
a host access is in progress the host presents no other (R138; log 11). -/
def execHostAccessPresented (access : HostAccess) (s : State) : Host.Outcome State Fault Refusal :=
  .next (if s.port.resetAsserted then s.forward access
    else if s.hostInProgress then s
    else s.present access)

/-- PORT_GRANT (R135 to R138). -/
def execPortGrant (s : State) : Host.Outcome State Fault Refusal := .next s.grant

/-- MEMORY_SIDE_AGENT_WRITE (R133): memory changes and no block is told. -/
def execMemorySideAgentWrite (addr : Addr) (data : Word) (s : State) : Host.Outcome State Fault Refusal :=
  .next (s.writeWord addr data)

end Sys2Proof.Machine
end

