-- ==== Sys2Proof/Machine/ProcessorAccesses.lean ====
section
/-! DEFINITION. The meanings of the Command Processor's own accesses. Each is taken where the processor presents a claim
of that kind and the port performs it; where no such claim is presented there is no such access, and nothing happens
(log 12). -/

namespace Sys2Proof.Machine

/-- The command whose next read is the processor's presented claim (R108, R114). -/
def Processor.commandReadClaim (p : Processor) : Option CommandSlot :=
  if p.claim = some .work ∧ p.state = .reading then p.slot else none

/-- COMMAND_READ (R114). -/
def execCommandRead (s : State) : Host.Outcome State Fault Refusal :=
  match s.proc.commandReadClaim with
  | some c => .next (s.takeInternal .processor (State.commandReadTaken c))
  | none => .next s

/-- The entry whose next prime read is the processor's presented claim (R13). -/
def State.primeReadClaim (s : State) : Option Index :=
  if s.proc.claim = some .work ∧ s.proc.state = .filling then
    match s.proc.slot with
    | some c => if (s.entry c.operand).state = .priming then some c.operand else none
    | none => none
  else none

/-- PRIME_READ (R13, R15, R17). -/
def execPrimeRead (s : State) : Host.Outcome State Fault Refusal :=
  match s.primeReadClaim with
  | some n => .next (s.takeInternal .processor (State.primeReadTaken n))
  | none => .next s

/-- The processor's presented claim is a write of its PUBLISHING state (R113, R120). -/
def Processor.publishClaim (p : Processor) : Bool := p.claim == some .work && p.state == .publishing

/-- SNAPSHOT_WRITE (R120): the next captured word. -/
def execSnapshotWrite (s : State) : Host.Outcome State Fault Refusal :=
  if s.proc.publishClaim then
    match s.proc.capture with
    | word :: rest => .next (s.takeInternal .processor (State.snapshotWordTaken word rest))
    | [] => .next s
  else .next s

/-- COMPLETION_WRITE (R113): after the last SNAPSHOT word, if there are any. -/
def execCompletionWrite (s : State) : Host.Outcome State Fault Refusal :=
  if s.proc.publishClaim && s.proc.capture.isEmpty then .next (s.takeInternal .processor State.completionTaken)
  else .next s

/-- REFUSAL_WRITE (R108, R112). -/
def execRefusalWrite (s : State) : Host.Outcome State Fault Refusal :=
  if s.proc.claim = some .refusal then .next (s.takeInternal .processor State.refusalTaken) else .next s

/-- STARTUP_WRITE (R109, R127): the next start-up write. -/
def execStartupWrite (s : State) : Host.Outcome State Fault Refusal :=
  if s.proc.claim = some .work ∧ s.proc.state = .starting then
    match s.proc.startupWrites with
    | w :: rest => .next (s.takeInternal .processor (State.startupWriteTaken w rest))
    | [] => .next s
  else .next s

end Sys2Proof.Machine
end

