-- ==== Sys2Proof/Machine/Reset.lean ====
section
/-! DEFINITION. The meanings of PIN_RESET and RESET_RELEASE. -/

namespace Sys2Proof.Machine

/-- PIN_RESET (R139, and R1, R5, R23, R53, R54, R66, R83, R84, R105, R143, R147 for the values). -/
def execPinReset (s : State) : Host.Outcome State Fault Refusal := .next s.assertReset

/-- RESET_RELEASE (R106, R109). -/
def execResetRelease (cbsel1 cbsel0 : Bool) (s : State) : Host.Outcome State Fault Refusal :=
  .next (s.releaseReset (strapNumber cbsel1 cbsel0))

end Sys2Proof.Machine
end

