-- ==== Sys2Proof/Machine/Time.lean ====
section
/-! DEFINITION. The Timebase and the Scrubber (chapter 9). -/

namespace Sys2Proof.Machine

/-! ## The Scrubber -/

/-- The positions (entry, offset) in the order of the search, from the cursor on (R149): ascending entry index and,
within one entry, ascending offset, wrapping from entry 63 to entry 0. -/
def Scrubber.searchOrder (sc : Scrubber) : List (Index × BitVec 4) :=
  (List.range 1024).map fun i =>
    let p := sc.cursorEntry.toNat * 16 + sc.cursorOffset.toNat + i
    (BitVec.ofNat 6 (p / 16), BitVec.ofNat 4 p)

/-- A position is eligible: its entry is ARMED or SUSPENDED and its offset below the span (R149). -/
def State.eligible (s : State) (p : Index × BitVec 4) : Bool :=
  (s.entry p.1).scrubbed && decide (p.2.toNat < (s.entry p.1).span.toNat)

/-- The next scrub word (R149). -/
def State.nextScrub (s : State) : Option (Index × BitVec 4) := s.scrubber.searchOrder.find? s.eligible

/-- The Scrubber's claim of a position, its void mark clear (R149). -/
def State.scrubClaimOf (s : State) (p : Index × BitVec 4) : ScrubClaim where
  entry := p.1
  offset := p.2
  addr := (s.entry p.1).base + p.2.zeroExtend 20
  void := false

/-- The position after a scrub word (R149). -/
def State.cursorAfter (s : State) (p : Index × BitVec 4) : Index × BitVec 4 :=
  if p.2.toNat + 1 < (s.entry p.1).span.toNat then (p.1, p.2 + 1) else (p.1 + 1, 0)

/-- The scrub countdown expires (R148, R149): with a claim outstanding the expiry is dropped, and otherwise the next
scrub word, if there is one, is claimed. The countdown is set to S again. The grant of the claim is a step of its own,
the model's choice (DESIGN CHOICE, log 23). -/
def State.expireScrub (s : State) : State :=
  let restarted := { s.scrubber with countdown := s.scrubber.interval }
  if s.scrubber.claim.isSome then { s with scrubber := restarted }
  else
    match s.nextScrub with
    | none => { s with scrubber := restarted }
    | some p =>
      { s with scrubber := { restarted with
          claim := some (s.scrubClaimOf p)
          cursorEntry := (s.cursorAfter p).1
          cursorOffset := (s.cursorAfter p).2 } }

/-- The scrub countdown is running and expires at the next tick event (R148). -/
def Scrubber.due (sc : Scrubber) : Bool := sc.running && decide (sc.countdown.toNat ≤ 1)

/-- What a tick event does at the Scrubber (R144, R148). -/
def State.tickScrub (s : State) : State :=
  if s.scrubber.due then s.expireScrub
  else if s.scrubber.running then
    { s with scrubber := { s.scrubber with countdown := s.scrubber.countdown - 1 } }
  else s

/-- The scrub read is taken (R150, R151): the claim ceases to be outstanding, and unless it is void the value read is
compared with the shadow. -/
def State.scrubReadTaken (c : ScrubClaim) (s : State) : State :=
  let s1 := { s with scrubber := { s.scrubber with claim := none } }
  let old := s.shadow c.entry c.offset.toNat
  let read := s.readWord c.addr
  if c.void || read == old then s1
  else s.meetTake ((s1.emitFor c.entry .diverge c.offset old read 1).setShadow c.entry c.offset.toNat read)

/-! ## The Timebase -/

/-- The Timebase at a tick event (R143 to R145): the counter increases, a pending divisor comes into force, and the
phase restarts at 0. -/
def Timebase.ticked (t : Timebase) : Timebase :=
  { tick := t.tick + 1, divisor := t.latestDivisor, pendingDivisor := none, phase := 0 }

/-- The entries with a running timer, in ascending index (R44, R56, R63). -/
def State.timed (s : State) : List Index :=
  entryNumbers.filter fun n => (s.entry n).holdoffRuns || (s.entry n).deadlineRuns

/-- A tick event, as one act (R144): the Timebase, then the Watch Table's timers and expiries in ascending entry index
(R63), and the scrub countdown. -/
def State.makeTick (s : State) : State :=
  let s1 := { s with timebase := s.timebase.ticked }
  s.meetTake (s1.forEach s1.timed State.tickEntry).tickScrub

/-- A tick event of a row's own: none occurs while the reset input is asserted (R143). The row stands for the periods
that remain and the tick event they complete (log 8). -/
def State.tickEvent (s : State) : State := if s.port.resetAsserted then s else s.makeTick

/-- One reference clock period (R143): the phase advances, and the period that completes the divisor in force makes
the tick event. While the reset input is asserted the phase stays at 0 and no tick event occurs. -/
def State.clockPeriod (s : State) : State :=
  if s.port.resetAsserted then s
  else if s.timebase.phase.toNat + 1 < s.timebase.divisor.toNat then
    { s with timebase := { s.timebase with phase := s.timebase.phase + 1 } }
  else s.makeTick

end Sys2Proof.Machine
end

