-- ==== Sys2Proof/Machine/Ticks.lean ====
section
/-! DEFINITION. The meanings of the commands of chapter 9 and of the expiries of chapters 3, 4 and 9. -/

namespace Sys2Proof.Machine

/-- REFERENCE_CLOCK_PERIOD (R143). -/
def execReferenceClockPeriod (s : State) : Host.Outcome State Fault Refusal := .next s.clockPeriod

/-- TICK_EVENT (R144), whole: the remaining periods of the divisor in force pass and the tick event is made (log 8).
None occurs while the reset input is asserted (R143). -/
def execTickEvent (s : State) : Host.Outcome State Fault Refusal := .next s.tickEvent

/-- HOLDOFF_EXPIRY (R44) of entry n. The expiry is part of the tick event at which the holdoff remaining reaches 0, so
the row is that tick event, whole. Where the next tick event does not end the period there is no expiry to make (R51;
DEDUCED, log 7). -/
def execHoldoffExpiry (n : Index) (s : State) : Host.Outcome State Fault Refusal :=
  .next (if (s.entry n).holdoffDue then s.tickEvent else s)

/-- DEADLINE_EXPIRY (R57) of entry n: the tick event at which its deadline remaining reaches 0, whole. Where the next
tick event does not end the period there is no expiry to make (R65; DEDUCED, log 7). -/
def execDeadlineExpiry (n : Index) (s : State) : Host.Outcome State Fault Refusal :=
  .next (if (s.entry n).deadlineDue then s.tickEvent else s)

/-- SCRUB_EXPIRY (R148, R149): the tick event at which the scrub countdown reaches 0, whole. Where the next tick event
does not bring it to 0 there is no expiry to make (DEDUCED, log 7). -/
def execScrubExpiry (s : State) : Host.Outcome State Fault Refusal :=
  .next (if s.scrubber.due then s.tickEvent else s)

/-- SCRUB_READ (R150, R151), where the Scrubber's claim is outstanding. -/
def execScrubRead (s : State) : Host.Outcome State Fault Refusal :=
  match s.scrubber.claim with
  | some c => .next (s.takeInternal .scrubber (State.scrubReadTaken c))
  | none => .next s

end Sys2Proof.Machine
end

