-- ==== Sys2Proof/Machine/WriterActs.lean ====
section
/-! DEFINITION. The meanings of the Journal Writer's acts and accesses (chapter 6). Where the writer has no such act or
access to make, nothing happens (log 12). -/

namespace Sys2Proof.Machine

/-- BEGIN_RECORD (R87): a READY writer with something to journal and no install request begins a record. -/
def execBeginRecord (s : State) : Host.Outcome State Fault Refusal :=
  .next (if s.mayBegin then s.begin else s)

/-- RECORD_WORD_WRITE (R88, R89): the next body word or the header of the record in flight. -/
def execRecordWordWrite (s : State) : Host.Outcome State Fault Refusal :=
  match s.journal.record with
  | some r =>
    if r.wordsTaken < recordWords s.journal.format then .next (s.takeInternal .writer (State.writeRecordWord r))
    else .next s
  | none => .next s

/-- PUBLICATION (R88): the PRODUCE write of a record whose N words have been taken. -/
def execPublication (s : State) : Host.Outcome State Fault Refusal :=
  match s.journal.record with
  | some r =>
    if r.wordsTaken < recordWords s.journal.format then .next s
    else .next (s.takeInternal .writer (State.publishRecord r))
  | none => .next s

/-- INSTALL_REQUEST_TAKEN (R101). -/
def execInstallRequestTaken (s : State) : Host.Outcome State Fault Refusal := .next s.takeInstallRequest

/-- INSTALLATION (R102, R123). A request that reached a writer that is not WRITING is taken at once (R101), so it
has been taken by the time its PRODUCE write is (log 14). -/
def execInstallation (s : State) : Host.Outcome State Fault Refusal :=
  let s1 := s.takeInstallRequest
  match s1.journal.record, s1.journal.install with
  | none, some r => .next (s1.takeInternal .writer (State.install r))
  | _, _ => .next s

end Sys2Proof.Machine
end

