-- ==== Sys2Proof/Machine/Dispatch.lean ====
section
/-! DEFINITION. The meaning of each command, one arm for each row of spec/opcode_table.json. -/

namespace Sys2Proof.Machine

def exec (i : Instr) (s : State) : Host.Outcome State Fault Refusal :=
  match i with
  | .pinReset => Sys2Proof.Machine.execPinReset s
  | .resetRelease cbsel1 cbsel0 => Sys2Proof.Machine.execResetRelease cbsel1 cbsel0 s
  | .hostWrite addr lanes data => Sys2Proof.Machine.execHostWrite addr lanes data s
  | .consume lanes data => Sys2Proof.Machine.execConsume lanes data s
  | .load entry tag => Sys2Proof.Machine.execLoad entry tag s
  | .disarm entry tag => Sys2Proof.Machine.execDisarm entry tag s
  | .suspend entry tag => Sys2Proof.Machine.execSuspend entry tag s
  | .resume entry tag => Sys2Proof.Machine.execResume entry tag s
  | .retune entry tag => Sys2Proof.Machine.execRetune entry tag s
  | .snapshot entry tag => Sys2Proof.Machine.execSnapshot entry tag s
  | .flush operand tag => Sys2Proof.Machine.execFlush operand tag s
  | .mark operand tag => Sys2Proof.Machine.execMark operand tag s
  | .journal operand tag => Sys2Proof.Machine.execJournal operand tag s
  | .timebase operand tag => Sys2Proof.Machine.execTimebase operand tag s
  | .badop opcode operand tag => Sys2Proof.Machine.execBadop opcode operand tag s
  | .restart operand tag => Sys2Proof.Machine.execRestart operand tag s
  | .commandRead => Sys2Proof.Machine.execCommandRead s
  | .primeRead => Sys2Proof.Machine.execPrimeRead s
  | .scrubRead => Sys2Proof.Machine.execScrubRead s
  | .snapshotWrite => Sys2Proof.Machine.execSnapshotWrite s
  | .completionWrite => Sys2Proof.Machine.execCompletionWrite s
  | .refusalWrite => Sys2Proof.Machine.execRefusalWrite s
  | .startupWrite => Sys2Proof.Machine.execStartupWrite s
  | .beginRecord => Sys2Proof.Machine.execBeginRecord s
  | .recordWordWrite => Sys2Proof.Machine.execRecordWordWrite s
  | .publication => Sys2Proof.Machine.execPublication s
  | .installRequestTaken => Sys2Proof.Machine.execInstallRequestTaken s
  | .installation => Sys2Proof.Machine.execInstallation s
  | .portGrant => Sys2Proof.Machine.execPortGrant s
  | .tickEvent => Sys2Proof.Machine.execTickEvent s
  | .holdoffExpiry entry => Sys2Proof.Machine.execHoldoffExpiry entry s
  | .deadlineExpiry entry => Sys2Proof.Machine.execDeadlineExpiry entry s
  | .scrubExpiry => Sys2Proof.Machine.execScrubExpiry s
  | .referenceClockPeriod => Sys2Proof.Machine.execReferenceClockPeriod s
  | .memorySideAgentWrite addr data => Sys2Proof.Machine.execMemorySideAgentWrite addr data s
  | .hostAccessPresented access => Sys2Proof.Machine.execHostAccessPresented access s

end Sys2Proof.Machine
end

