-- ==== Sys2Proof/Safety.lean ====
section
/-! DEFINITION. What the claims speak of: when an access can be taken, and the invariants of the part. -/

namespace Sys2Proof.Machine

/-! ## When an access is taken -/

/-- The Port Arbiter lets a host write be taken now (R135): the reset input is not asserted, and either the host's
access is being performed, or the memory is free and no internal claim must go first. -/
def State.hostReady (s : State) : Prop :=
  s.port.resetAsserted = false ∧
    ((∃ w, s.port.performing = some (.host w)) ∨
      (s.port.performing = none ∧ (s.internalWaits = false ∨ s.port.guard < Config.guardLimit)))

/-- The state in which the host write of a `hostReady` state is taken: the memory is free again, and a grant made for it
has changed the guard count (R136). -/
def State.hostTaking (s : State) : State :=
  match s.port.performing with
  | some _ => s.freePort
  | none =>
    { s with port := { s.port with
        hostWaiting := none, performing := none, guard := s.guardAfterHostGrant, wait := false } }

/-- A host write has reached memory and every entry that holds its word has dealt with it, in a state (R25, R130); a
take that was due before it has met the events (R74; log 22). -/
def State.judged (s : State) (w : HostWrite) : State :=
  s.meetTake (State.evaluate { s with mem := Memory.writeLanes s.mem w.addr w.lanes w.data } w)

/-- The Port Arbiter lets the access of an internal claimant be taken now (R135, R137): it is being performed, or it is
the one the arbiter grants. -/
def State.internalReady (s : State) (c : Claimant) : Prop := s.grant.port.performing = some (.internal c)

/-- The state in which the internal access of an `internalReady` state is taken: granted, and the memory free again. -/
def State.internalTaking (s : State) : State := s.grant.freePort

/-- The grant leaves the host's access waiting: an internal access is being performed, or is the one granted
(R135, R138). -/
def State.hostHeld (s : State) : Prop :=
  s.port.resetAsserted = false ∧ s.port.guard ≤ Config.guardLimit ∧
    ((∃ c, s.port.performing = some (.internal c)) ∨
      (s.port.performing = none ∧ s.internalWaits = true ∧ s.port.guard = Config.guardLimit))

/-! ## What one host write does at one entry -/

/-- The old value of R26: the entry's shadow of the written word before the write. -/
def State.oldValue (s : State) (n : Index) (w : HostWrite) : Word := s.shadow n ((s.entry n).offsetOf w.addr)

/-- The new value of R26: the enabled lanes from the data, the others from the shadow. -/
def State.newValue (s : State) (n : Index) (w : HostWrite) : Word :=
  joinBytes (if w.lanes.upper then upperByte w.data else upperByte (s.oldValue n w))
    (if w.lanes.lower then lowerByte w.data else lowerByte (s.oldValue n w))

/-- The write triggers the ARMED entry's sense (R29, step 2). -/
def State.writeTriggers (s : State) (n : Index) (w : HostWrite) : Bool :=
  (s.entry n).triggers (s.oldValue n w) (s.newValue n w)

/-- An event of entry n for a write, with the kind and the count given (R37, R60). -/
def State.writeEvent (s : State) (n : Index) (w : HostWrite) (kind : EventKind) (count : BitVec 16) : Event where
  kind := kind
  cls := (s.entry n).cls
  index := n
  offset := BitVec.ofNat 4 ((s.entry n).offsetOf w.addr)
  old := s.oldValue n w
  new := s.newValue n w
  tag := (s.entry n).tag
  count := count
  time := s.timebase.tick

/-- The events a write creates in a matched entry, in the order of their creation: the FRESH, then the EDGE (R39,
R61). -/
def State.writeEvents (s : State) (w : HostWrite) (n : Index) : List Event :=
  let e := s.entry n
  if e.state = .armed then
    (if e.deadlineState = .stale then [s.writeEvent n w .fresh (e.missLimit.zeroExtend 16)] else [])
      ++ (if s.writeTriggers n w = true ∧ e.holdoffState = .quiet then [s.writeEvent n w .edge 1] else [])
  else []

/-- A matched entry after a write (R14, R16, R28, R42, R43, R59, R60): only the event count, the deadline and the
holdoff of an ARMED entry change. -/
def State.entryAfterWrite (s : State) (w : HostWrite) (n : Index) : Entry :=
  let e := s.entry n
  if e.state = .armed then
    let opens := s.writeTriggers n w = true ∧ e.holdoffState = .quiet ∧ e.holdoff ≠ 0
    { e with
      eventCount := e.eventCount + BitVec.ofNat 16 (s.writeEvents w n).length
      deadlineState := if e.deadlineState = .off then .off else .running
      deadlineRemaining := if e.deadlineState = .off then e.deadlineRemaining else e.deadline
      missCount := if e.deadlineState = .off then e.missCount else 0
      holdoffState := if opens then .holding else e.holdoffState
      holdoffRemaining := if opens then e.holdoff else e.holdoffRemaining
      merge :=
        if s.writeTriggers n w = true ∧ e.holdoffState = .holding then
          { count := if e.merge.count = 65535 then 65535 else e.merge.count + 1
            offset := BitVec.ofNat 4 (e.offsetOf w.addr)
            old := s.oldValue n w
            new := s.newValue n w }
        else e.merge }
  else e

/-- The written offset of a matched entry has not been primed (R13). -/
def State.unprimed (s : State) (n : Index) (w : HostWrite) : Bool :=
  (s.entry n).state == .priming && !decide ((s.entry n).offsetOf w.addr < (s.entry n).primeProgress.toNat)

/-- The slot of the written offset of a matched entry after a write: the new value, and in an unprimed word of a
PRIMING entry the marks of the written lanes (R9, R14, R16, R28, R29). -/
def State.slotAfterWrite (s : State) (w : HostWrite) (n : Index) : Slot :=
  let slot := s.slot ((s.entry n).slotAt ((s.entry n).offsetOf w.addr))
  { value := s.newValue n w
    lowerKnown := slot.lowerKnown || (s.unprimed n w && w.lanes.lower)
    upperKnown := slot.upperKnown || (s.unprimed n w && w.lanes.upper)
    held := slot.held }

/-! ## What requests and ticks do at one entry -/

/-- The MERGED event of entry n's merge record (R45), at a value of the tick counter. -/
def State.mergedEvent (s : State) (n : Index) (time : BitVec 32) : Event where
  kind := .merged
  cls := (s.entry n).cls
  index := n
  offset := (s.entry n).merge.offset
  old := (s.entry n).merge.old
  new := (s.entry n).merge.new
  tag := (s.entry n).tag
  count := (s.entry n).merge.count
  time := time

/-- The STALE event of entry n (R58), at a value of the tick counter. -/
def State.staleEvent (s : State) (n : Index) (time : BitVec 32) : Event where
  kind := .stale
  cls := (s.entry n).cls
  index := n
  offset := 0
  old := s.shadow n 0
  new := s.shadow n 0
  tag := (s.entry n).tag
  count := (s.entry n).missLimit.zeroExtend 16
  time := time

/-- The queue after a flush of entry n's merge (R48 to R50): a pending merge arrives as a MERGED event. -/
def State.queueAfterFlush (s : State) (n : Index) : EventQueue :=
  if (s.entry n).merge.count = 0 then s.queue else s.queue.arrive (s.mergedEvent n s.timebase.tick)

/-- The event count of entry n after a flush of its merge (R2, R45). -/
def State.eventCountAfterFlush (s : State) (n : Index) : BitVec 16 :=
  if (s.entry n).merge.count = 0 then (s.entry n).eventCount else (s.entry n).eventCount + 1

/-- Entry n after a holdoff expiry (R44). -/
def Entry.afterHoldoffExpiry (e : Entry) : Entry :=
  if e.merge.count = 0 then { e with holdoffState := .quiet, holdoffRemaining := 0 }
  else { e with eventCount := e.eventCount + 1, merge := MergeRecord.clear, holdoffRemaining := e.holdoff }

/-- The events of a holdoff expiry (R44). -/
def State.holdoffExpiryEvents (s : State) (n : Index) (time : BitVec 32) : List Event :=
  if (s.entry n).merge.count = 0 then [] else [s.mergedEvent n time]

/-- An entry after a deadline expiry (R57). -/
def Entry.afterDeadlineExpiry (e : Entry) : Entry :=
  if e.missCount.toNat + 1 < e.missLimit.toNat then
    { e with missCount := e.missCount + 1, deadlineRemaining := e.deadline }
  else
    { e with
      eventCount := e.eventCount + 1, missCount := e.missLimit, deadlineState := .stale, deadlineRemaining := 0 }

/-- The events of a deadline expiry (R57). -/
def State.deadlineExpiryEvents (s : State) (n : Index) (time : BitVec 32) : List Event :=
  if (s.entry n).missCount.toNat + 1 < (s.entry n).missLimit.toNat then [] else [s.staleEvent n time]

/-- An entry's holdoff after a tick event (R44, R144). -/
def Entry.afterHoldoffTick (e : Entry) : Entry :=
  if e.state = .armed ∧ e.holdoffState = .holding then
    if e.holdoffRemaining.toNat ≤ 1 then e.afterHoldoffExpiry
    else { e with holdoffRemaining := e.holdoffRemaining - 1 }
  else e

/-- An entry's deadline after a tick event (R56, R144). -/
def Entry.afterDeadlineTick (e : Entry) : Entry :=
  if e.state = .armed ∧ e.deadlineState = .running then
    if e.deadlineRemaining.toNat ≤ 1 then e.afterDeadlineExpiry
    else { e with deadlineRemaining := e.deadlineRemaining - 1 }
  else e

/-- The event of entry n's holdoff at a tick event (R44), with the counter as the tick event leaves it (R45). -/
def State.holdoffTickEvents (s : State) (n : Index) : List Event :=
  let e := s.entry n
  if e.state = .armed ∧ e.holdoffState = .holding ∧ e.holdoffRemaining.toNat ≤ 1 then
    s.holdoffExpiryEvents n (s.timebase.tick + 1)
  else []

/-- The event of entry n's deadline at a tick event (R57), with the counter as the tick event leaves it (R58). -/
def State.deadlineTickEvents (s : State) (n : Index) : List Event :=
  let e := s.entry n
  if e.state = .armed ∧ e.deadlineState = .running ∧ e.deadlineRemaining.toNat ≤ 1 then
    s.deadlineExpiryEvents n (s.timebase.tick + 1)
  else []

/-- The events a tick event creates in entry n, in the order of their creation: the MERGED, then the STALE (R63). -/
def State.tickEvents (s : State) (n : Index) : List Event := s.holdoffTickEvents n ++ s.deadlineTickEvents n

/-- The events a tick event creates in a list of entries, in the list's order (R63). -/
def State.tickEventsOf (s : State) (ns : List Index) : List Event := ns.flatMap s.tickEvents

/-- The next tick event ends the holdoff period of entry n (R44), and one can occur (R143). -/
def State.holdoffEnds (s : State) (n : Index) : Prop :=
  s.port.resetAsserted = false ∧ (s.entry n).state = .armed ∧ (s.entry n).holdoffState = .holding ∧
    (s.entry n).holdoffRemaining.toNat ≤ 1

/-- The next tick event ends the deadline period of entry n (R56, R57), and one can occur (R143). -/
def State.deadlineEnds (s : State) (n : Index) : Prop :=
  s.port.resetAsserted = false ∧ (s.entry n).state = .armed ∧ (s.entry n).deadlineState = .running ∧
    (s.entry n).deadlineRemaining.toNat ≤ 1

/-- The next tick event brings the scrub countdown to 0 (R148), and one can occur (R143). -/
def State.scrubEnds (s : State) : Prop :=
  s.port.resetAsserted = false ∧ s.scrubber.running = true ∧ s.scrubber.countdown.toNat ≤ 1

/-- A sequence of events arrives at a queue, one after another (R70, R71). -/
def EventQueue.arriveAll (q : EventQueue) (events : List Event) : EventQueue := events.foldl EventQueue.arrive q

/-- The CB offsets a command reads, in order (R114). -/
def commandReads (c : CommandSlot) : List Nat :=
  if c.opcode = 1 ∨ c.opcode = 5 then (List.range 8).map fun k => 0x100 + 8 * c.operand.toNat + k
  else if c.opcode = 8 then [0x001]
  else if c.opcode = 9 then [0x004, 0x005, 0x006, 0x007]
  else if c.opcode = 10 then [0x008, 0x009]
  else []

/-- A write of a whole word went from one memory to another: the word reads as written, and every byte outside it as
before (R134). -/
def storesWord (before after : Memory) (a : Addr) (w : Word) : Prop :=
  Memory.readByte after (upperCell a) = upperByte w ∧ Memory.readByte after (lowerCell a) = lowerByte w ∧
    ∀ x, x ≠ upperCell a → x ≠ lowerCell a → Memory.readByte after x = Memory.readByte before x

/-- The processor ends the command in the slot with a result and claims COMPLETION (R113). -/
def Processor.publishing (p : Processor) (r : ResultCode) : Processor :=
  Processor.present { p with state := .publishing, result := some r }

/-- The processor has put a command into the slot whose result is known at once (R111, R113). -/
def Processor.ended (p : Processor) (c : CommandSlot) (r : ResultCode) : Processor :=
  Processor.present { p with
    state := .publishing, slot := some c, readWords := [], result := some r, capture := [] }

/-- The next read of the command in the slot is the processor's access, and it can be taken now (R114, R135). -/
def State.readsNext (s : State) (c : CommandSlot) (earlier : List Nat) (offset : Nat) (later : List Nat) : Prop :=
  s.internalReady .processor ∧ s.proc.claim = some .work ∧ s.proc.state = .reading ∧ s.proc.slot = some c ∧
    commandReads c = earlier ++ offset :: later ∧ earlier.length = s.proc.readWords.length

/-- The state in which the read of a word of the control block is taken and its value kept (R114), the processor's next
claim not yet presented. -/
def State.afterRead (s : State) (offset : Nat) : State :=
  { s.internalTaking with
    proc := { s.proc with
      claim := none, readWords := s.proc.readWords ++ [Memory.readWord s.mem (s.cb offset)] } }

/-! ## Host writes, commands and resets -/

/-- The fields of the command word that a command row stands for (R110, R111). -/
def commandFields : Instr → Option CommandSlot
  | .load n tag => some ⟨1, n, tag⟩
  | .disarm n tag => some ⟨2, n, tag⟩
  | .suspend n tag => some ⟨3, n, tag⟩
  | .resume n tag => some ⟨4, n, tag⟩
  | .retune n tag => some ⟨5, n, tag⟩
  | .snapshot n tag => some ⟨6, n, tag⟩
  | .flush n tag => some ⟨7, n, tag⟩
  | .mark n tag => some ⟨8, n, tag⟩
  | .journal n tag => some ⟨9, n, tag⟩
  | .timebase n tag => some ⟨10, n, tag⟩
  | .badop op n tag => some ⟨op, n, tag⟩
  | .restart n tag => some ⟨15, n, tag⟩
  | _ => none

/-- The host write that a row stands for: a HOST_WRITE, a CONSUME, or the full write of a command word to COMMAND
(R94, R110). -/
def State.hostWriteOf (s : State) : Instr → Option HostWrite
  | .hostWrite a lanes data => some ⟨a, lanes, data⟩
  | .consume lanes data => some ⟨s.cb 0x002, lanes, data⟩
  | c => (commandFields c).map fun k => s.commandWrite k.opcode k.operand k.tag

/-- The state in which the write of a command word has reached memory and every entry that watches COMMAND has dealt
with it, before the Command Processor acts on it (R40). -/
def State.commandJudged (s : State) (opcode : Opcode) (operand : Index) (tag : CommandTag) : State :=
  s.hostTaking.judged (s.commandWrite opcode operand tag)

/-- A write that the host has presented and that has not been taken, the granted one before the waiting one. -/
def State.heldWrite (s : State) : Option HostWrite :=
  match s.port.performing, s.port.hostWaiting with
  | some (.host w), _ => some w
  | _, some (.write w) => some w
  | _, _ => none

/-- The address of a read that the host has presented and that has not been granted. -/
def State.heldRead (s : State) : Option Addr :=
  match s.port.performing, s.port.hostWaiting with
  | some (.host _), _ => none
  | _, some (.read a) => some a
  | _, _ => none

/-- From state s to state t the port forwards the host access in progress, if there is one, and changes nothing else of
memory or of the host's read data (R139; log 15): a held write's enabled lanes reach memory, and a held read returns the
word memory holds. -/
def State.forwardsHeld (s t : State) : Prop :=
  (∀ w, s.heldWrite = some w → ∀ x, Memory.readByte t.mem x =
    if w.lanes.upper = true ∧ x = upperCell w.addr then upperByte w.data
    else if w.lanes.lower = true ∧ x = lowerCell w.addr then lowerByte w.data
    else Memory.readByte s.mem x) ∧
  (s.heldWrite = none → t.mem = s.mem) ∧
  (∀ a, s.heldRead = some a → t.port.readData = Memory.readWord s.mem a) ∧
  (s.heldRead = none → t.port.readData = s.port.readData)

/-- The state in which the install request, if there is one, is taken (R101). -/
def State.requestTaken (s : State) : State :=
  { s with journal := { s.journal with install := s.journal.install.map fun r => { r with taken := true } } }

/-- The access of a row of the part's own is the one its claimant presents (R13, R88, R102, R108, R109, R112 to R114,
R120, R127, R149). A request that the writer, not WRITING, has not yet taken counts as taken, by INSTALLATION itself
(log 14). Rows that are no access of the part's own present none. -/
def State.presentsAccess (s : State) (c : Instr) : Prop :=
  let p := s.proc
  let works := fun state : ProcessorState => p.claim = some .work ∧ p.state = state
  match c with
  | .commandRead => works .reading ∧ p.slot ≠ none
  | .primeRead => works .filling ∧ ∃ k, p.slot = some k ∧ (s.entry k.operand).state = .priming
  | .snapshotWrite => works .publishing ∧ p.capture ≠ []
  | .completionWrite => works .publishing ∧ p.capture = []
  | .refusalWrite => p.claim = some .refusal
  | .startupWrite => works .starting ∧ p.startupWrites ≠ []
  | .recordWordWrite => ∃ r, s.journal.record = some r ∧ r.wordsTaken < recordWords s.journal.format
  | .publication => ∃ r, s.journal.record = some r ∧ recordWords s.journal.format ≤ r.wordsTaken
  | .installation => s.journal.record = none ∧ s.journal.install ≠ none
  | .scrubRead => s.scrubber.claim ≠ none
  | _ => False

/-- The values that pin reset and RESTART share: the table (R23, R53, R66), the Shadow Store (R5), the Event Queue
(R83), the Journal Writer (R104, R105), the Scrubber (R147) and the Port Arbiter (R136, R137, R139). -/
def State.blocksReset (s : State) : Prop :=
  (∀ n, s.entry n = Entry.free) ∧
  (∀ k, s.slot k = { value := 0, lowerKnown := false, upperKnown := false, held := false }) ∧
  s.freeCount = 256 ∧
  (∀ c, s.queue.list c = [] ∧ s.queue.lostOf c = 0 ∧ s.queue.unreportedOf c = 0) ∧
  s.queue.created = 0 ∧ s.queue.journaled = 0 ∧ s.queue.takeMet = false ∧
  s.journal =
    { base := 0, length := 0, format := .compact, threshold := 0, produce := 0, consume := 0, urgentIndex := 0,
      urgentPending := false, attn := false, consumeImage := 0, record := none, install := none } ∧
  s.scrubber = { interval := 0, countdown := 0, running := false, cursorEntry := 0, cursorOffset := 0, claim := none } ∧
  s.port.hostWaiting = none ∧ s.port.performing = none ∧ s.port.guard = 0 ∧ s.port.pointer = .processor ∧
  s.port.wait = false

/-! ## Forbidden places and illegal descriptors -/

/-- A word lies in a forbidden place (R10): the installed ring, or a part-owned word of the control block. -/
def State.forbiddenWord (s : State) (x : Nat) : Prop :=
  let cb := s.proc.cbsel.toNat * 0x40000
  (s.journal.base.toNat ≤ x ∧ x < s.journal.base.toNat + s.journal.length * recordWords s.journal.format) ∨
  (cb + 0x010 ≤ x ∧ x ≤ cb + 0x013) ∨ (cb + 0x020 ≤ x ∧ x ≤ cb + 0x037) ∨ (cb + 0x040 ≤ x ∧ x ≤ cb + 0x05F)

/-- A descriptor is illegal: the table of R11. -/
def Descriptor.isIllegal (d : Descriptor) : Prop :=
  ¬(1 ≤ d.span.toNat ∧ d.span.toNat ≤ 16) ∨
  d.base.toNat + d.span.toNat - 1 > 0xFFFFF ∨
  (d.senseCode = 6 ∨ d.senseCode = 7) ∨
  (d.mask = 0 ∧ d.senseCode ≠ 5) ∨
  (d.deadline ≠ 0 ∧ d.missLimit = 0) ∨
  (d.spareD1 = true ∨ d.spareD7 ≠ 0)

/-- The rule fields of an entry are a descriptor's (R12, R22, R30). -/
def Entry.hasRule (e : Entry) (d : Descriptor) : Prop :=
  senseOf d.senseCode = some e.sense ∧ e.mask = d.mask ∧ e.pattern = d.pattern ∧ e.cls = d.cls ∧ e.tag = d.tag ∧
    e.holdoff = d.holdoff ∧ e.deadline = d.deadline ∧ e.missLimit = d.missLimit

/-- The descriptor of the command in the slot, as its eight reads give it once the last has been taken (R114). -/
def State.descriptorRead (s : State) (offset : Nat) : Descriptor := descriptorOf (s.afterRead offset).proc.readWords

/-! ## Invariants -/

/-- An entry is as chapters 1, 3 and 4 allow: FREE with every field zero (R1), or with a legal descriptor's fields
(R11), and with its holdoff (R41) and deadline (R54) fields in agreement. -/
def Entry.wf (e : Entry) : Prop :=
  (e.state = .free → e = Entry.free) ∧
  (e.state ≠ .free →
    1 ≤ e.span.toNat ∧ e.span.toNat ≤ 16 ∧ e.base.toNat + e.span.toNat ≤ 0x100000 ∧
    (e.mask ≠ 0 ∨ e.sense = .touch) ∧ (e.deadline ≠ 0 → e.missLimit ≠ 0)) ∧
  (e.merge.count = 0 → e.merge = MergeRecord.clear) ∧
  (e.holdoffState = .quiet → e.holdoffRemaining = 0 ∧ e.merge.count = 0) ∧
  (e.holdoffState = .holding →
    e.state = .armed ∧ e.holdoffRemaining ≠ 0 ∧ e.holdoffRemaining.toNat ≤ e.holdoff.toNat) ∧
  (e.deadlineState = .off → e.deadlineRemaining = 0 ∧ e.missCount = 0) ∧
  (e.deadlineState = .running →
    e.deadlineRemaining ≠ 0 ∧ e.deadlineRemaining.toNat ≤ e.deadline.toNat ∧ e.missCount.toNat < e.missLimit.toNat) ∧
  (e.deadlineState = .stale → e.deadlineRemaining = 0 ∧ e.missCount = e.missLimit) ∧
  (e.deadlineState ≠ .off ↔ e.state = .armed ∧ e.deadline ≠ 0) ∧
  (e.state = .priming → e.primeProgress.toNat < e.span.toNat)

/-- A scrub claim that is not void names an ARMED or SUSPENDED entry (R150), an offset below its span, and the address
of that word (R149). -/
def State.scrubClaimWf (s : State) : Prop :=
  ∀ c, s.scrubber.claim = some c → c.void = false →
    let e := s.entry c.entry
    (e.state = .armed ∨ e.state = .suspended) ∧ c.offset.toNat < e.span.toNat ∧
      c.addr.toNat = e.base.toNat + c.offset.toNat

/-- Every entry is as the chapters allow, and so is the scrub claim. -/
def State.entriesWf (s : State) : Prop := (∀ n, (s.entry n).wf) ∧ s.scrubClaimWf

/-- The span of an entry as R7 sums it: 0 for a FREE entry. -/
def Entry.heldSpan (e : Entry) : Nat := if e.state = .free then 0 else e.span.toNat

/-- The free count and the spans of all entries that are not FREE make 256 (R7). -/
def State.slotsAccounted (s : State) : Prop :=
  s.freeCount + (entryNumbers.map fun n => (s.entry n).heldSpan).sum = Config.shadowSlots

/-- The Shadow Store is as R5 allows: an entry has one slot for each offset of its span; no slot serves twice; a slot is
held exactly when an entry has it; the free count counts the others; and the marks of an entry's slot are set only while
the entry is PRIMING and the slot's prime read has not been taken. -/
def State.slotsWf (s : State) : Prop :=
  (∀ n, (s.entry n).slots.length = (s.entry n).span.toNat) ∧
  (entryNumbers.flatMap fun n => (s.entry n).slots).Nodup ∧
  (∀ k, (s.slot k).held = true ↔ ∃ n, k ∈ (s.entry n).slots) ∧
  s.freeCount = s.freeSlots.length ∧
  ∀ n o, o < (s.entry n).span.toNat →
    ((s.entry n).state ≠ .priming ∨ o < (s.entry n).primeProgress.toNat) →
    (s.slot ((s.entry n).slotAt o)).lowerKnown = false ∧ (s.slot ((s.entry n).slotAt o)).upperKnown = false

/-- The events in flight in the writer: 0 or 1 (R73, R79). -/
def Journal.eventsInFlight (j : Journal) : Nat :=
  match j.record with
  | some r => match r.content with
    | .event _ => 1
    | .loss _ _ => 0
  | none => 0

/-- The balance of R79, on the 32-bit values: created = journaled + queued + in flight + lost. -/
def State.balanced (s : State) : Prop :=
  s.queue.created =
    s.queue.journaled + BitVec.ofNat 32 s.queue.depth + BitVec.ofNat 32 s.journal.eventsInFlight
      + (s.queue.lostOf 0 + s.queue.lostOf 1 + s.queue.lostOf 2 + s.queue.lostOf 3)

/-- The Event Queue holds at most 32 events (R69), and is full while a take that an arrival at the full queue has met is
still to be made (R74; log 22). -/
def EventQueue.wf (q : EventQueue) : Prop := q.depth ≤ 32 ∧ (q.takeMet = true → q.depth = 32)

/-- The Timebase is as R143 allows: neither divisor is 0, and the phase is below the divisor in force. -/
def Timebase.wf (t : Timebase) : Prop :=
  t.divisor ≠ 0 ∧ t.pendingDivisor ≠ some 0 ∧ t.phase.toNat < t.divisor.toNat

/-- The scrub countdown is as R147 and R148 allow: it runs exactly while S is above 0, and then has 1 to S ticks left.
-/
def Scrubber.wf (sc : Scrubber) : Prop :=
  (sc.running = true ↔ sc.interval ≠ 0) ∧
    (sc.running = true → 1 ≤ sc.countdown.toNat ∧ sc.countdown.toNat ≤ sc.interval.toNat)

/-- The timers of chapter 9 are as its rules allow. -/
def State.timersWf (s : State) : Prop := s.timebase.wf ∧ s.scrubber.wf

/-- A ring as JOURNAL lets it be installed: none, or one of legal length and threshold inside memory (R84, R122). -/
def legalRing (base : Addr) (length threshold : Nat) (format : Format) : Prop :=
  (length = 0 ∧ threshold = 0) ∨
    (4 ≤ length ∧ length ≤ 4096 ∧ 1 ≤ threshold ∧ threshold ≤ length ∧
      base.toNat + length * recordWords format ≤ 0x100000)

/-- The Journal Writer is as chapter 6 allows (R84 to R86, R88, R98, R99, R101). -/
def Journal.wf (j : Journal) : Prop :=
  legalRing j.base j.length j.threshold j.format ∧
  (j.length = 0 → j.produce = 0 ∧ j.consume = 0 ∧ j.urgentIndex = 0 ∧ j.urgentPending = false ∧ j.record = none) ∧
  (j.length ≠ 0 →
    j.produce < 2 * j.length ∧ j.consume < 2 * j.length ∧ j.urgentIndex < 2 * j.length ∧ j.occupancy ≤ j.length) ∧
  (j.urgentPending = true → j.distance j.urgentIndex < j.occupancy) ∧
  (∀ r, j.record = some r →
    r.index = j.produce ∧ r.wordsTaken ≤ recordWords j.format ∧ j.occupancy < j.length) ∧
  (∀ r, j.install = some r →
    legalRing r.base r.length r.threshold r.format ∧ (r.taken = true → j.record = none)) ∧
  j.attn = j.attnLevel

/-- The Port Arbiter is as chapter 8 allows: the guard count's range (R136), WAIT (R138), nothing held or performed
while the reset input is asserted (R139), and an internal access being performed is one that its claimant still claims
(R134). -/
def State.portWf (s : State) : Prop :=
  s.port.guard ≤ Config.guardLimit ∧
  s.port.wait = s.port.hostWaiting.isSome ∧
  (s.port.resetAsserted = true → s.port.performing = none ∧ s.port.hostWaiting = none) ∧
  (∀ c, s.port.performing = some (.internal c) → s.claims c = true)

/-- No word watched by an entry that is not FREE lies in a forbidden place (R10), nor in the ring of an install request
(R122). -/
def State.placesWf (s : State) : Prop :=
  ∀ n, (s.entry n).state ≠ .free →
    s.forbidden (s.entry n).base.toNat (s.entry n).span.toNat = false ∧
      ∀ r, s.journal.install = some r →
        runsMeet r.base.toNat (r.length * recordWords r.format) (s.entry n).base.toNat (s.entry n).span.toNat = false

/-- The start-up writes, in their order: after pin reset (R109), and after a RESTART, of which the first is made only
where an ABORTED completion is owed (R127). -/
def startupOrders : List (List StartupWrite) :=
  [[.zeroCompletion, .refusal, .produce, .presence], [.aborted, .presence, .produce, .restartDone]]

/-- The start-up record agrees with the start-up writes left (R107, R109, R127). -/
def Processor.startupWf (p : Processor) : Prop :=
  (∃ order ∈ startupOrders, p.startupWrites <:+ order) ∧
  (p.owedAborted.isSome = p.startupWrites.contains .aborted) ∧
  (p.restartTag.isSome = p.startupWrites.contains .restartDone) ∧
  (p.startupWrites.contains .refusal = true → p.pendingRefusal.isSome = true)

/-- The command slot and what is kept for its command agree with the processor's state (R107, R111, R113). -/
def Processor.slotWf (p : Processor) : Prop :=
  match p.state with
  | .starting => p.slot = none ∧ p.startupWrites ≠ []
  | .idle => p.slot = none ∧ p.startupWrites = []
  | .reading => p.startupWrites = [] ∧ ∃ c, p.slot = some c ∧ p.readWords.length < (commandReads c).length
  | .filling => p.startupWrites = [] ∧ ∃ c, p.slot = some c ∧ c.opcode = 1
  | .waiting => p.startupWrites = [] ∧ ∃ c, p.slot = some c ∧ c.opcode = 9
  | .publishing => p.startupWrites = [] ∧ p.slot.isSome = true ∧ p.result.isSome = true

/-- The processor's one claim (R108): what is claimed is there to be made, and while the reset input is not asserted a
claim is presented whenever an access waits. -/
def State.claimWf (s : State) : Prop :=
  (s.proc.claim = some .work → s.proc.workWaits = true) ∧
  (s.proc.claim = some .refusal → s.proc.refusalWaits = true) ∧
  (s.proc.claim = none → s.port.resetAsserted = false →
    s.proc.workWaits = false ∧ s.proc.refusalWaits = false)

/-- The Command Processor agrees with the rest of the part: an install request stands only while it is WAITING (R123),
and an entry is PRIMING only while its LOAD is in the slot and the processor FILLING (R18, R115). -/
def State.processorWf (s : State) : Prop :=
  s.proc.startupWf ∧ s.proc.slotWf ∧ s.claimWf ∧
  (s.journal.install.isSome = true → s.proc.state = .waiting) ∧
  ∀ n, (s.entry n).state = .priming → s.proc.state = .filling ∧ ∃ c, s.proc.slot = some c ∧ c.operand = n

end Sys2Proof.Machine
end

