-- ==== Sys2Proof/Certificates/Slice0/Obligations.lean ====
section
/-! DEFINITION. The statements about the LV640 model, for the provers. Each docstring names the rules it formalises.
The words they use (`hostReady`, `internalReady`, `judged`, `storesWord` and so on) are defined in Safety.lean. -/

open Sys2Proof Sys2Proof.Machine

/-! ## The queue of commands, and reset -/

/-- A step takes the command at the front of the queue and is `exec` of it on the state with the queue's rest; on an
empty queue the block idles (the model's choice, log 5). -/
def Obligations.StepTakesFrontCommand : Prop :=
  (∀ (c : Instr) (rest : List Instr) (s : State), s.pending = c :: rest → step s = exec c { s with pending := rest }) ∧
    ∀ s : State, s.pending = [] → step s = .next s

/-- Every command, in every state, answers a next state, and leaves the queue of commands and the straps last sampled as
they are; only RESET_RELEASE samples the straps (R106). -/
def Obligations.EveryCommandAnswers : Prop :=
  ∀ (c : Instr) (s : State), ∃ t, exec c s = .next t ∧ t.pending = s.pending ∧
    ((∀ b1 b0, c ≠ .resetRelease b1 b0) → t.proc.cbsel = s.proc.cbsel)

/-- The invariants below hold right after reset. -/
def Obligations.InvariantsHoldAtReset : Prop :=
  Memory.wf State.reset.mem ∧ State.reset.balanced ∧ State.reset.queue.wf ∧ State.reset.entriesWf ∧
    State.reset.slotsAccounted ∧ State.reset.slotsWf ∧ State.reset.journal.wf ∧ State.reset.portWf ∧
    State.reset.timersWf ∧ State.reset.placesWf ∧ State.reset.processorWf

/-- PIN_RESET (R139, R143, R107): every block takes its pin-reset values, no internal claim exists, and memory keeps
every word. That a host access in progress is forwarded, a held write to memory unannounced and a held read with the
word memory holds as its read data, is the model's reading (DEDUCED, log 15). That the straps last sampled stay is the
model's choice (DESIGN CHOICE, log 16). -/
def Obligations.PinResetTakesResetValues : Prop :=
  ∀ s : State, ∃ t, exec .pinReset s = .next t ∧
    t.blocksReset ∧ t.port.resetAsserted = true ∧
    t.timebase = { tick := 0, divisor := 25000, pendingDivisor := none, phase := 0 } ∧
    t.proc =
      { state := .starting, slot := none, restartTag := none, owedAborted := none
        startupWrites := [.zeroCompletion, .refusal, .produce, .presence], pendingRefusal := some 0
        readWords := [], result := none, capture := [], claim := none, startCount := 0, cbsel := s.proc.cbsel } ∧
    t.freeCounter = s.freeCounter ∧ t.pending = s.pending ∧ s.forwardsHeld t

/-- RESET_RELEASE (R106, R109): the straps are sampled, every block takes its pin-reset values, and the Command
Processor is STARTING with its first start-up write claimed. That a release without an asserted reset is a whole reset,
which forwards a host access in progress, is the model's choice (DESIGN CHOICE, log 16; log 15). -/
def Obligations.ResetReleaseSamplesStraps : Prop :=
  ∀ (cbsel1 cbsel0 : Bool) (s : State), ∃ t, exec (.resetRelease cbsel1 cbsel0) s = .next t ∧
    t.blocksReset ∧ t.port.resetAsserted = false ∧
    t.timebase = { tick := 0, divisor := 25000, pendingDivisor := none, phase := 0 } ∧
    t.proc.cbsel.toNat = 2 * cbsel1.toNat + cbsel0.toNat ∧
    (∀ offset, offset < 0x300 → (t.cb offset).toNat = (2 * cbsel1.toNat + cbsel0.toNat) * 0x40000 + offset) ∧
    t.proc =
      { state := .starting, slot := none, restartTag := none, owedAborted := none
        startupWrites := [.zeroCompletion, .refusal, .produce, .presence], pendingRefusal := some 0
        readWords := [], result := none, capture := [], claim := some .work, startCount := 0, cbsel := t.proc.cbsel } ∧
    t.freeCounter = s.freeCounter ∧ t.pending = s.pending ∧ s.forwardsHeld t

/-! ## Host writes -/

/-- Whatever row a host write is (HOST_WRITE, CONSUME, or a command row's full write to COMMAND), once the port lets it
be taken memory holds its enabled lanes and every other byte as before (R130, R131, R132). That a HOST_WRITE to COMMAND
or CONSUME is one and the same write as the row of that command or of CONSUME, and that a BADOP term of an opcode
outside 11 to 14 is the write of its command word, is the model's reading (DEDUCED, log 18). -/
def Obligations.HostWriteReachesMemory : Prop :=
  ∀ (c : Instr) (w : HostWrite) (s : State), s.hostWriteOf c = some w → s.hostReady →
    ∃ t, exec c s = .next t ∧ exec (.hostWrite w.addr w.lanes w.data) s = .next t ∧
      ∀ x, Memory.readByte t.mem x =
        if w.lanes.upper = true ∧ x = upperCell w.addr then upperByte w.data
        else if w.lanes.lower = true ∧ x = lowerCell w.addr then lowerByte w.data
        else Memory.readByte s.mem x

/-- A no-lane write, to whatever word, is granted like any host access and has no other effect (R131). -/
def Obligations.NoLaneWriteHasNoEffect : Prop :=
  ∀ (a : Addr) (data : Word) (s : State), s.hostReady →
    exec (.hostWrite a ⟨false, false⟩ data) s = .next s.hostTaking ∧
      exec (.consume ⟨false, false⟩ data) s = .next s.hostTaking

/-- A host write to a word that no entry holds, other than COMMAND and CONSUME, has no effect in the part beyond
reaching memory (R25, R140, R141, R142). -/
def Obligations.UnmatchedWriteOnlyReachesMemory : Prop :=
  ∀ (a : Addr) (lanes : Lanes) (data : Word) (s : State), s.hostReady →
    a ≠ s.cb 0x000 → a ≠ s.cb 0x002 → (∀ n, (s.entry n).holds a = false) →
    ∃ t, exec (.hostWrite a lanes data) s = .next t ∧ t = { s.hostTaking with mem := t.mem } ∧
      ∀ x, Memory.readByte t.mem x =
        if lanes.upper = true ∧ x = upperCell a then upperByte data
        else if lanes.lower = true ∧ x = lowerCell a then lowerByte data
        else Memory.readByte s.mem x

/-- The events of one host write arrive at the Event Queue one after another: the matched entries in ascending index,
and within one entry the FRESH before the EDGE (R37, R39, R60, R61, R71). So it is for every word written, COMMAND and
CONSUME among them (R40, R132): `judged` is the state in which the write has reached memory and the entries, before the
Command Processor or the Journal Writer acts on it, and for every other word it is the whole effect. -/
def Obligations.EventsOfOneWriteInOrder : Prop :=
  ∀ (w : HostWrite) (s : State), s.hostReady → s.slotsWf → (w.lanes.lower || w.lanes.upper) = true →
    let t := s.hostTaking.judged w
    (w.addr ≠ s.cb 0x000 → w.addr ≠ s.cb 0x002 → exec (.hostWrite w.addr w.lanes w.data) s = .next t) ∧
      t.queue = (s.queue.arriveAll
        ((entryNumbers.filter fun n => (s.entry n).holds w.addr).flatMap (s.writeEvents w))).meetTake s.takeDue

/-- A host write at the entries (R25, R27, R28, R42, R43, R59, R60), for every word written, COMMAND and CONSUME among
them (R40, R132): each entry that holds the word deals with the write by its own state and shadow, whatever the others
do; every other entry, and every other block, is as it was; and memory holds the written lanes (R130). -/
def Obligations.WriteAtEntries : Prop :=
  ∀ (w : HostWrite) (s : State), s.hostReady → s.slotsWf → (w.lanes.lower || w.lanes.upper) = true →
    let t := s.hostTaking.judged w
    (w.addr ≠ s.cb 0x000 → w.addr ≠ s.cb 0x002 → exec (.hostWrite w.addr w.lanes w.data) s = .next t) ∧
      t = { s.hostTaking with entries := t.entries, slots := t.slots, queue := t.queue, mem := t.mem } ∧
      (∀ n, t.entry n = if (s.entry n).holds w.addr = true then s.entryAfterWrite w n else s.entry n) ∧
      ∀ x, Memory.readByte t.mem x =
        if w.lanes.upper = true ∧ x = upperCell w.addr then upperByte w.data
        else if w.lanes.lower = true ∧ x = lowerCell w.addr then lowerByte w.data
        else Memory.readByte s.mem x

/-- A host write at the Shadow Store (R9, R14, R16, R28, R29), for every word written, COMMAND and CONSUME among them
(R40, R132): each entry that holds the word has its slot for it set, with the marks of an unprimed word; no other slot
changes. -/
def Obligations.WriteAtShadows : Prop :=
  ∀ (w : HostWrite) (s : State), s.hostReady → s.slotsWf → (w.lanes.lower || w.lanes.upper) = true →
    let t := s.hostTaking.judged w
    (w.addr ≠ s.cb 0x000 → w.addr ≠ s.cb 0x002 → exec (.hostWrite w.addr w.lanes w.data) s = .next t) ∧
      (∀ n, (s.entry n).holds w.addr = true →
        t.slot ((s.entry n).slotAt ((s.entry n).offsetOf w.addr)) = s.slotAfterWrite w n) ∧
      ∀ k, (∀ n, (s.entry n).holds w.addr = true → (s.entry n).slotAt ((s.entry n).offsetOf w.addr) ≠ k) →
        t.slot k = s.slot k

/-- The senses, bit by bit (R31, R32, R33, R34): selected bits are those of the mask; a value matches the pattern when
its selected bits equal the pattern's. -/
def Obligations.SensesJudgeSelectedBits : Prop :=
  ∀ (e : Entry) (old new : Word),
    let selected := fun i : Nat => i < 16 ∧ e.mask.getLsbD i = true
    let matching := fun v : Word => ∀ i, selected i → v.getLsbD i = e.pattern.getLsbD i
    (e.sense = .rise → (e.triggers old new = true ↔ ∃ i, selected i ∧ old.getLsbD i = false ∧ new.getLsbD i = true)) ∧
    (e.sense = .fall → (e.triggers old new = true ↔ ∃ i, selected i ∧ old.getLsbD i = true ∧ new.getLsbD i = false)) ∧
    (e.sense = .either → (e.triggers old new = true ↔ ∃ i, selected i ∧ old.getLsbD i ≠ new.getLsbD i)) ∧
    (e.sense = .either → (e.triggers old new = true ↔
      ({ e with sense := .rise } : Entry).triggers old new = true ∨
        ({ e with sense := .fall } : Entry).triggers old new = true)) ∧
    (e.sense = .enter → (e.triggers old new = true ↔ matching new ∧ ¬matching old)) ∧
    (e.sense = .leave → (e.triggers old new = true ↔ matching old ∧ ¬matching new)) ∧
    (e.sense = .touch → e.triggers old new = true)

/-- A full write of CONSUME with a ring installed and a legal value sets C, recomputes the urgent-pending flag and
ATTN, and is kept in the consume image (R94, R96, R98, R99); with no ring it is not judged, and changes the image alone
(R95). The write is also dealt with by the entries that watch CONSUME (R40). -/
def Obligations.ConsumeAccepted : Prop :=
  ∀ (lanes : Lanes) (data : Word) (s : State), s.hostReady → (lanes.lower || lanes.upper) = true →
    let j := s.journal
    let written := s.hostTaking.judged ⟨s.cb 0x002, lanes, data⟩
    let image := joinBytes (if lanes.upper then upperByte data else upperByte j.consumeImage)
      (if lanes.lower then lowerByte data else lowerByte j.consumeImage)
    let occupancy := fun c : Nat => (j.produce + 2 * j.length - c) % (2 * j.length)
    (j.length = 0 →
      exec (.consume lanes data) s = .next { written with journal := { j with consumeImage := image } }) ∧
    (j.length ≠ 0 → lanes = ⟨true, true⟩ → data.toNat < 2 * j.length → occupancy data.toNat ≤ occupancy j.consume →
      let urgent := j.urgentPending && decide (occupancy j.urgentIndex < occupancy data.toNat)
      exec (.consume lanes data) s = .next { written with
        journal := { j with
          consume := data.toNat
          consumeImage := data
          urgentPending := urgent
          attn := decide (j.threshold ≤ occupancy data.toNat) || urgent } })

/-- A byte write of CONSUME, or a full write of an illegal value, with a ring installed leaves the Journal Writer as it
was, but for the consume image, and creates a CONSUME_ERROR; the entries' events of the same write come before it or
after it (R71, R95, R96). -/
def Obligations.ConsumeRejected : Prop :=
  ∀ (lanes : Lanes) (data : Word) (s : State), s.hostReady → s.slotsWf → (lanes.lower || lanes.upper) = true →
    let j := s.journal
    let w : HostWrite := ⟨s.cb 0x002, lanes, data⟩
    let image := joinBytes (if lanes.upper then upperByte data else upperByte j.consumeImage)
      (if lanes.lower then lowerByte data else lowerByte j.consumeImage)
    let occupancy := fun c : Nat => (j.produce + 2 * j.length - c) % (2 * j.length)
    let events := (entryNumbers.filter fun n => (s.entry n).holds (s.cb 0x002)).flatMap (s.writeEvents w)
    let error : Event :=
      { kind := .notice, cls := 0, index := 0, offset := 0, old := BitVec.ofNat 16 j.consume, new := image
        tag := 2, count := 0, time := s.timebase.tick }
    j.length ≠ 0 →
    (lanes ≠ ⟨true, true⟩ ∨ 2 * j.length ≤ data.toNat ∨ occupancy j.consume < occupancy data.toNat) →
    ∃ t, exec (.consume lanes data) s = .next t ∧
      t = { s.hostTaking.judged w with
        journal := { j with consumeImage := image }, queue := t.queue, freeCounter := t.freeCounter } ∧
      (t.queue = (s.queue.arriveAll (error :: events)).meetTake s.takeDue ∨
        t.queue = (s.queue.arriveAll (events ++ [error])).meetTake s.takeDue)

/-! ## The Event Queue -/

/-- The arrival of an event (R70, R75, R76): the created total rises; with room the event joins the young end of its
class's list; at depth 32 it displaces the youngest event of the least urgent class present when that class is less
urgent, and is itself lost otherwise; a loss raises the two counters of its class. -/
def Obligations.ArrivalAtTheQueue : Prop :=
  ∀ (q : EventQueue) (e : Event),
    let r := q.arrive e
    r.created = q.created + 1 ∧ r.journaled = q.journaled ∧
    (q.depth < 32 →
      r.depth = q.depth + 1 ∧ (∀ c, r.list c = if c = e.cls then q.list c ++ [e] else q.list c) ∧
        r.lost = q.lost ∧ r.unreported = q.unreported) ∧
    (q.depth = 32 → ∀ z, q.list z ≠ [] → (∀ c, z.toNat < c.toNat → q.list c = []) →
      let loser := if e.cls.toNat < z.toNat then z else e.cls
      r.depth = 32 ∧
      (∀ c, r.list c =
        if e.cls.toNat < z.toNat then
          if c = z then (q.list c).dropLast else if c = e.cls then q.list c ++ [e] else q.list c
        else q.list c) ∧
      (∀ c, r.lostOf c = if c = loser then q.lostOf c + 1 else q.lostOf c) ∧
      ∀ c, (r.unreportedOf c).toNat =
        if c = loser then min 65535 ((q.unreportedOf c).toNat + 1) else (q.unreportedOf c).toNat)

/-! ## Expiries and ticks -/

/-- HOLDOFF_EXPIRY (R44, R45, R63): the expiry of an entry's holdoff period is part of the tick event that ends the
period, so the row is that tick event, and the counter rises. A pending merge arrives as a MERGED event in the entry's
turn, before its own STALE, and a new period starts; with none pending the entry becomes QUIET. Where the next tick
event does not end the period there is no expiry to make (R51). That the row is the tick event whole is the model's
reading (DEDUCED, log 7). -/
def Obligations.HoldoffExpiryReportsMerge : Prop :=
  ∀ (n : Index) (s : State),
    (s.holdoffEnds n → ∃ t, exec (.holdoffExpiry n) s = .next t ∧ exec .tickEvent s = .next t ∧
      t.timebase.tick = s.timebase.tick + 1 ∧
      t.entry n = (s.entry n).afterHoldoffExpiry.afterDeadlineTick ∧
      t.queue = (s.queue.arriveAll
        (s.tickEventsOf (entryNumbers.take n.toNat) ++ s.holdoffExpiryEvents n t.timebase.tick ++
          s.deadlineTickEvents n ++ s.tickEventsOf (entryNumbers.drop (n.toNat + 1)))).meetTake s.takeDue) ∧
    (¬s.holdoffEnds n → exec (.holdoffExpiry n) s = .next s)

/-- DEADLINE_EXPIRY (R56, R57, R58, R63): the expiry of an entry's deadline period comes in the tick event that ends
the period, so the row is that tick event, and the counter rises. A miss is counted in the entry's turn, after its own
MERGED, and at the miss limit the entry becomes STALE with a STALE event. Where the next tick event does not end the
period there is no expiry to make (R65). That the row is the tick event whole is the model's reading (DEDUCED, log 7).
-/
def Obligations.DeadlineExpiryCountsMiss : Prop :=
  ∀ (n : Index) (s : State),
    (s.deadlineEnds n → ∃ t, exec (.deadlineExpiry n) s = .next t ∧ exec .tickEvent s = .next t ∧
      t.timebase.tick = s.timebase.tick + 1 ∧
      t.entry n = (s.entry n).afterHoldoffTick.afterDeadlineExpiry ∧
      t.queue = (s.queue.arriveAll
        (s.tickEventsOf (entryNumbers.take n.toNat) ++ s.holdoffTickEvents n ++
          s.deadlineExpiryEvents n t.timebase.tick ++
          s.tickEventsOf (entryNumbers.drop (n.toNat + 1)))).meetTake s.takeDue) ∧
    (¬s.deadlineEnds n → exec (.deadlineExpiry n) s = .next s)

/-- TICK_EVENT (R144, R145, R148, R63): the tick counter rises, a pending divisor comes into force and the phase
restarts; every running timer loses one and expires at 0; the events arrive in ascending entry index, the MERGED of an
entry before its STALE, with the counter as the tick leaves it; the scrub countdown, if running, loses one, and at 0
expires, as the row SCRUB_EXPIRY says. No tick event occurs while the reset input is asserted (R143). That the row by
itself stands for the rest of the tick's periods is the model's reading (log 8). -/
def Obligations.TickEventStepsEveryTimer : Prop :=
  ∀ s : State,
    (s.port.resetAsserted = true → exec .tickEvent s = .next s) ∧
    (s.port.resetAsserted = false → ∃ t, exec .tickEvent s = .next t ∧
      t = { s with
        entries := t.entries
        queue := (s.queue.arriveAll (s.tickEventsOf entryNumbers)).meetTake s.takeDue
        timebase :=
          { tick := s.timebase.tick + 1, divisor := s.timebase.pendingDivisor.getD s.timebase.divisor
            pendingDivisor := none, phase := 0 }
        scrubber := t.scrubber } ∧
      (∀ n, t.entry n = (s.entry n).afterHoldoffTick.afterDeadlineTick) ∧
      (s.scrubber.running = false → t.scrubber = s.scrubber) ∧
      (s.scrubber.running = true → 1 < s.scrubber.countdown.toNat →
        t.scrubber = { s.scrubber with countdown := s.scrubber.countdown - 1 }) ∧
      (s.scrubEnds → exec .scrubExpiry s = .next t))

/-- REFERENCE_CLOCK_PERIOD (R143, R144): the phase advances, and the period that completes the divisor in force makes
the tick event. While the reset input is asserted the phase stays. -/
def Obligations.ClockPeriodAdvancesPhase : Prop :=
  ∀ s : State,
    (s.port.resetAsserted = true → exec .referenceClockPeriod s = .next s) ∧
    (s.port.resetAsserted = false → s.timebase.phase.toNat + 1 < s.timebase.divisor.toNat →
      exec .referenceClockPeriod s = .next { s with timebase := { s.timebase with phase := s.timebase.phase + 1 } }) ∧
    (s.port.resetAsserted = false → s.timebase.divisor.toNat ≤ s.timebase.phase.toNat + 1 →
      ∃ t, exec .referenceClockPeriod s = .next t ∧ exec .tickEvent s = .next t ∧
        t.timebase.tick = s.timebase.tick + 1 ∧ t.timebase.phase = 0)

/-- From one tick event to the next there are as many reference clock periods as the divisor in force says (R143, R144,
R145): run from the queue, fewer than that advance the phase alone, and the last of them is the tick event. That the
phase is below the divisor in force is an invariant (StepsKeepPortAndTimers). -/
def Obligations.PeriodsMakeTheTick : Prop :=
  ∀ (s : State) (rest : List Instr) (k : Nat),
    s.port.resetAsserted = false → s.timebase.phase.toNat < s.timebase.divisor.toNat →
    s.pending = List.replicate k .referenceClockPeriod ++ rest →
    (s.timebase.phase.toNat + k < s.timebase.divisor.toNat →
      Host.Core.run Sys2Proof.core k s = .next { s with
        pending := rest, timebase := { s.timebase with phase := s.timebase.phase + BitVec.ofNat 16 k } }) ∧
    (s.timebase.phase.toNat + k = s.timebase.divisor.toNat →
      Host.Core.run Sys2Proof.core k s = exec .tickEvent { s with pending := rest })

/-- SCRUB_EXPIRY (R148, R149): the scrub countdown expires at the tick event that brings it to 0, so the row is that
tick event, and the counter rises. With a claim outstanding the expiry is dropped; otherwise the first eligible
position from the cursor on, in ascending entry and offset and wrapping, is claimed and the cursor moves past it; in
each case the countdown is set to S again. Where the next tick event does not bring the countdown to 0 there is no
expiry to make. That the row is the tick event whole is the model's reading (DEDUCED, log 7). -/
def Obligations.ScrubExpiryClaimsNextWord : Prop :=
  ∀ s : State,
    let sc := s.scrubber
    let eligible := fun (m : Index) (k : BitVec 4) =>
      ((s.entry m).state = .armed ∨ (s.entry m).state = .suspended) ∧ k.toNat < (s.entry m).span.toNat
    let position := fun i : Nat => sc.cursorEntry.toNat * 16 + sc.cursorOffset.toNat + i
    let dropped : Scrubber := { sc with countdown := sc.interval }
    (¬s.scrubEnds → exec .scrubExpiry s = .next s) ∧
    (s.scrubEnds → ∃ t, exec .scrubExpiry s = .next t ∧ exec .tickEvent s = .next t ∧
      t.timebase.tick = s.timebase.tick + 1 ∧
      (sc.claim.isSome = true → t.scrubber = dropped) ∧
      ((∀ m k, ¬eligible m k) → t.scrubber = dropped) ∧
      (sc.claim = none → ∀ (m : Index) (k : BitVec 4) (i : Nat), i < 1024 → m.toNat * 16 + k.toNat = position i % 1024 →
        eligible m k →
        (∀ i' < i, ∀ (m' : Index) (k' : BitVec 4), m'.toNat * 16 + k'.toNat = position i' % 1024 → ¬eligible m' k') →
        let last := (s.entry m).span.toNat ≤ k.toNat + 1
        t.scrubber = { sc with
          countdown := sc.interval
          cursorEntry := if last then m + 1 else m
          cursorOffset := if last then 0 else k + 1
          claim := some
            { entry := m, offset := k, addr := (s.entry m).base + BitVec.ofNat 20 k.toNat, void := false } }))

/-- SCRUB_READ (R150, R151): the claim ceases to be outstanding; unless it is void, a value read that differs from the
shadow creates a DIVERGE event and becomes the shadow, and an equal one changes nothing. -/
def Obligations.ScrubReadComparesShadow : Prop :=
  ∀ (c : ScrubClaim) (s : State), s.internalReady .scrubber → s.scrubber.claim = some c →
    let read := Memory.readWord s.mem c.addr
    let old := s.shadow c.entry c.offset.toNat
    let e := s.entry c.entry
    let k := e.slotAt c.offset.toNat
    let taken : State := { s.internalTaking with scrubber := { s.scrubber with claim := none } }
    (c.void = true ∨ read = old → exec .scrubRead s = .next taken) ∧
    (c.void = false → read ≠ old → exec .scrubRead s = .next { taken with
      entries := s.entries.set c.entry.toNat { e with eventCount := e.eventCount + 1 } c.entry.isLt
      slots := s.slots.set k.toNat { s.slot k with value := read } k.isLt
      queue := (s.queue.arrive
        { kind := .diverge, cls := e.cls, index := c.entry, offset := c.offset, old := old, new := read, tag := e.tag
          count := 1, time := s.timebase.tick }).meetTake s.takeDue })

/-! ## The Journal Writer -/

/-- BEGIN_RECORD (R72, R74, R80, R87): a READY writer with no install request begins a LOSS record when some loss is
unreported, taking the four counts, and otherwise a record of the oldest event of the most urgent class present; with
nothing to journal, in any other writer state, or with an install request, it begins nothing. Where the arrival of an
event at the full queue meets the take of an event, and is dealt with first, the take stays a take of an event, of the
queue as R75 leaves it. The model's reading (DEDUCED, logs 14 and 22): an act's arrivals meet a take that was due when
the act began, the writer standing ready with an event queued and no loss unreported, and the field `takeMet` keeps
that until BEGIN_RECORD; the arrivals of an act that began with no take due, an empty queue among such, meet none. -/
def Obligations.BeginRecordTakesLossesFirst : Prop :=
  ∀ s : State,
    let ready := s.journal.state = .ready ∧ s.journal.install = none
    let unreported := ∃ c, s.queue.unreportedOf c ≠ 0
    let record := fun content : RecordContent =>
      { s.journal with record := some { content := content, index := s.journal.produce, wordsTaken := 0 } }
    (¬ready → exec .beginRecord s = .next s) ∧
    (ready → unreported → s.queue.takeMet = false → exec .beginRecord s = .next { s with
      queue := { s.queue with unreported := Vector.replicate 4 0 }
      journal := record (.loss s.queue.unreported s.timebase.tick) }) ∧
    (ready → ¬unreported → (∀ c, s.queue.list c = []) → exec .beginRecord s = .next s) ∧
    (ready → ¬unreported ∨ s.queue.takeMet = true →
      ∀ (c : EventClass) (e : Event) (rest : List Event), s.queue.list c = e :: rest →
        (∀ c' : EventClass, c'.toNat < c.toNat → s.queue.list c' = []) →
        exec .beginRecord s = .next { s with
          queue := { s.queue with lists := s.queue.lists.set c.toNat rest c.isLt, takeMet := false }
          journal := record (.event e) }) ∧
    (ready → ¬unreported → ∀ e,
      let met := ((s.queue.arrive e).meetTake s.takeDue).takeMet
      (s.queue.depth = 32 → met = true) ∧ (s.queue.depth < 32 → met = s.queue.takeMet)) ∧
    (¬ready ∨ unreported ∨ s.queue.depth = 0 → ∀ events,
      ((s.queue.arriveAll events).meetTake s.takeDue).takeMet = (s.queue.arriveAll events).takeMet)

/-- RECORD_WORD_WRITE (R88, R89): words 1 to N − 1 in ascending order and then the header, each at its place in the
slot of the record's index. -/
def Obligations.RecordWordsInOrder : Prop :=
  ∀ (r : RecordInFlight) (s : State), s.internalReady .writer → s.journal.record = some r →
    let j := s.journal
    let words := if j.format = .full then 8 else 4
    let word := if r.wordsTaken + 1 < words then r.wordsTaken + 1 else 0
    r.wordsTaken < words →
    ∃ t, exec .recordWordWrite s = .next t ∧
      t = { s.internalTaking with
        mem := t.mem, journal := { j with record := some { r with wordsTaken := r.wordsTaken + 1 } } } ∧
      storesWord s.mem t.mem (BitVec.ofNat 20 (j.base.toNat + r.index % j.length * words + word))
        (recordWord j.format (decide (r.index / j.length = 1)) r.content word)

/-- The words of a record (R90, R91, R92, 10.6): the header's fields at their bits, and the body of an event's and of a
LOSS record in both formats. -/
def Obligations.RecordLayout : Prop :=
  let header := fun (kind cls index : Nat) (format : Format) (lap : Bool) =>
    0x8000 + 0x1000 * kind + 0x400 * cls + (if format = .full then 0x200 else 0) + (if lap = true then 0x100 else 0) + index
  (∀ (format : Format) (lap : Bool) (e : Event), (recordWord format lap (.event e) 0).toNat =
    header
      (match e.kind with
        | .edge => 0
        | .merged => 1
        | .stale => 2
        | .fresh => 3
        | .diverge => 4
        | .mark => 5
        | .notice => 6)
      e.cls.toNat e.index.toNat format lap) ∧
  (∀ (format : Format) (lap : Bool) (counts : Vector (BitVec 16) 4) (time : BitVec 32) (c : EventClass),
    counts[c.toNat] ≠ 0 → (∀ c' : EventClass, c'.toNat < c.toNat → counts[c'.toNat] = 0) →
    (recordWord format lap (.loss counts time) 0).toNat = header 7 c.toNat 0 format lap ∧
      (RecordContent.loss counts time).cls = c) ∧
  (∀ e : Event, (RecordContent.event e).cls = e.cls) ∧
  (∀ (lap : Bool) (e : Event),
    (List.range 7).map (fun w => recordWord .full lap (.event e) (w + 1)) =
      [e.tag, BitVec.ofNat 16 e.offset.toNat, e.old, e.new, BitVec.ofNat 16 (e.time.toNat % 65536),
        BitVec.ofNat 16 (e.time.toNat / 65536), e.count] ∧
    (List.range 3).map (fun w => recordWord .compact lap (.event e) (w + 1)) =
      [e.tag, e.new, BitVec.ofNat 16 (e.time.toNat % 65536)]) ∧
  ∀ (lap : Bool) (counts : Vector (BitVec 16) 4) (time : BitVec 32),
    let total := counts[0].toNat + counts[1].toNat + counts[2].toNat + counts[3].toNat
    let bit := fun (x : BitVec 16) (b : Nat) => if x = 0 then 0 else b
    (List.range 7).map (fun w => recordWord .full lap (.loss counts time) (w + 1)) =
      [BitVec.ofNat 16 (min 65535 total), counts[0], counts[1], counts[2], BitVec.ofNat 16 (time.toNat % 65536),
        BitVec.ofNat 16 (time.toNat / 65536), counts[3]] ∧
    (List.range 3).map (fun w => recordWord .compact lap (.loss counts time) (w + 1)) =
      [BitVec.ofNat 16 (min 65535 total),
        BitVec.ofNat 16 (bit counts[0] 1 + bit counts[1] 2 + bit counts[2] 4 + bit counts[3] 8),
        BitVec.ofNat 16 (time.toNat % 65536)]

/-- PUBLICATION (R73, R78, R85, R88, R98, R99, R101): PRODUCE takes (P + 1) mod 2L and so does P; an event's record
raises the journaled total; a class-0 record sets the urgent-pending flag and U; nothing is in flight; a waiting
install request is taken in the same act; ATTN is recomputed. -/
def Obligations.PublicationAdvancesProduce : Prop :=
  ∀ (r : RecordInFlight) (s : State), s.internalReady .writer → s.journal.record = some r →
    let j := s.journal
    let p := (j.produce + 1) % (2 * j.length)
    let urgent := decide (r.content.cls = 0) || j.urgentPending
    j.length ≠ 0 → ¬r.wordsTaken < (if j.format = .full then 8 else 4) →
    ∃ t, exec .publication s = .next t ∧
      t = { s.internalTaking with
        mem := t.mem
        queue := { s.queue with
          journaled := match r.content with
            | .event _ => s.queue.journaled + 1
            | .loss _ _ => s.queue.journaled }
        journal := { j with
          produce := p
          urgentPending := urgent
          urgentIndex := if r.content.cls = 0 then p else j.urgentIndex
          record := none
          install := j.install.map fun q => { q with taken := true }
          attn := decide (j.threshold ≤ (p + 2 * j.length - j.consume) % (2 * j.length)) || urgent } } ∧
      storesWord s.mem t.mem (s.cb 0x012) (BitVec.ofNat 16 p)

/-- INSTALL_REQUEST_TAKEN (R101): a writer that is not WRITING takes a waiting install request, and then claims
PRODUCE; a WRITING writer does not, and where there is no request, or it has been taken already, there is none to take
(log 12). -/
def Obligations.InstallRequestIsTaken : Prop :=
  ∀ s : State,
    (∀ r, s.journal.install = some r → r.taken = false → s.journal.record = none →
      ∃ t, exec .installRequestTaken s = .next t ∧ t.claims .writer = true ∧
        t = { s with journal := { s.journal with install := some { r with taken := true } } }) ∧
    (∀ r, s.journal.install = some r → r.taken = true → exec .installRequestTaken s = .next s) ∧
    (s.journal.install = none ∨ s.journal.record ≠ none → exec .installRequestTaken s = .next s)

/-- INSTALLATION (R102, R123): PRODUCE takes 0, the ring takes the request's values with P = C = 0, the urgent-pending
flag and ATTN go, and the Command Processor claims COMPLETION with DONE, after creating JOURNAL_START if L > 0. The
consume image stays (R96), and so do the queue and its counters (R82). JOURNAL_START meets no take, and one that an
arrival had met in the old ring is not made (R87, R101; the model's field `takeMet`, log 22). A request that the writer,
not WRITING, has not yet taken is taken in the act of this row, before its access is granted: the model's reading
(DEDUCED, log 14). With no request, or while the writer is WRITING, there is no such access and no effect, whatever the
port would grant (log 12). -/
def Obligations.InstallationStartsRing : Prop :=
  (∀ s : State, s.journal.install = none ∨ s.journal.record ≠ none → exec .installation s = .next s) ∧
  ∀ (r : InstallRequest) (s : State), s.requestTaken.internalReady .writer → s.journal.wf → s.journal.record = none →
    s.journal.install = some r →
    ∃ t, exec .installation s = .next t ∧
      t = { s.requestTaken.internalTaking with
        mem := t.mem
        journal :=
          { base := r.base, length := r.length, format := r.format, threshold := r.threshold, produce := 0, consume := 0
            urgentIndex := 0, urgentPending := false, attn := false, consumeImage := s.journal.consumeImage
            record := none, install := none }
        queue :=
          { (if r.length = 0 then s.queue
            else s.queue.arrive
              { kind := .notice, cls := 0, index := 0, offset := 0, old := 0, new := 0, tag := 1, count := 0
                time := s.timebase.tick }) with
            takeMet := false }
        proc := s.proc.publishing .done } ∧
      storesWord s.mem t.mem (s.cb 0x012) 0

/-! ## Commands written to COMMAND -/

/-- A full write of a command word taken at IDLE. LOAD, RETUNE, MARK, JOURNAL and TIMEBASE (R111, R114): the command
goes into the slot and the processor is READING, with the claim of its first read. An opcode from 11 to 14 (R125): it
is PUBLISHING with BADOP, the written opcode and tag. Nothing else changes beyond the write itself. -/
def Obligations.CommandsBeginAtIdle : Prop :=
  ∀ (n : Index) (tag : CommandTag) (s : State), s.hostReady → s.proc.state = .idle →
    (∀ (c : Instr) (op : Opcode),
      (c, op) ∈ [(Instr.load n tag, (1 : Opcode)), (.retune n tag, 5), (.mark n tag, 8), (.journal n tag, 9),
        (.timebase n tag, 10)] →
      exec c s = .next { s.commandJudged op n tag with
        proc := Processor.present { s.proc with
          state := .reading, slot := some ⟨op, n, tag⟩, readWords := [], result := none, capture := [] } }) ∧
    ∀ op : Opcode, 11 ≤ op.toNat → op.toNat ≤ 14 →
      exec (.badop op n tag) s = .next { s.commandJudged op n tag with proc := s.proc.ended ⟨op, n, tag⟩ .badop }

/-- DISARM taken at IDLE (R7, R19, R49, R117, R151): an ARMED or SUSPENDED entry's pending merge is reported, the entry
is FREE, its slots are free with their values kept, and an outstanding scrub claim of it is void; a FREE or PRIMING
entry gives NOTARMED and nothing changes. -/
def Obligations.DisarmFreesEntry : Prop :=
  ∀ (n : Index) (tag : CommandTag) (s : State), s.hostReady → s.proc.state = .idle →
    let b := s.commandJudged 2 n tag
    let e := b.entry n
    ((e.state = .free ∨ e.state = .priming) →
      exec (.disarm n tag) s = .next { b with proc := s.proc.ended ⟨2, n, tag⟩ .notarmed }) ∧
    ((e.state = .armed ∨ e.state = .suspended) → ∃ t, exec (.disarm n tag) s = .next t ∧
      t = { b with
        entries := b.entries.set n.toNat Entry.free n.isLt
        slots := t.slots
        freeCount := b.freeCount + e.span.toNat
        queue := (b.queueAfterFlush n).meetTake s.takeDue
        scrubber := { b.scrubber with
          claim := b.scrubber.claim.map fun c => { c with void := c.void || decide (c.entry = n) } }
        proc := s.proc.ended ⟨2, n, tag⟩ .done } ∧
      ∀ k, t.slot k = if k ∈ e.slots then { b.slot k with held := false } else b.slot k)

/-- SUSPEND taken at IDLE (R20, R48, R64, R117): an ARMED entry's pending merge is reported, its holdoff is QUIET, its
deadline OFF, and it is SUSPENDED; a SUSPENDED entry is as it was, and a FREE or PRIMING entry gives NOTARMED. -/
def Obligations.SuspendStopsTimers : Prop :=
  ∀ (n : Index) (tag : CommandTag) (s : State), s.hostReady → s.proc.state = .idle →
    let b := s.commandJudged 3 n tag
    let e := b.entry n
    ((e.state = .free ∨ e.state = .priming) →
      exec (.suspend n tag) s = .next { b with proc := s.proc.ended ⟨3, n, tag⟩ .notarmed }) ∧
    (e.state = .suspended → exec (.suspend n tag) s = .next { b with proc := s.proc.ended ⟨3, n, tag⟩ .done }) ∧
    (e.state = .armed → exec (.suspend n tag) s = .next { b with
      entries := b.entries.set n.toNat
        { e with
          state := .suspended, eventCount := b.eventCountAfterFlush n, merge := ⟨0, 0, 0, 0⟩, holdoffState := .quiet
          holdoffRemaining := 0, deadlineState := .off, deadlineRemaining := 0, missCount := 0 } n.isLt
      queue := (b.queueAfterFlush n).meetTake s.takeDue
      proc := s.proc.ended ⟨3, n, tag⟩ .done })

/-- RESUME taken at IDLE (R21, R55, R117): a SUSPENDED entry is ARMED with holdoff QUIET, and its deadline starts when
its period is not 0; an ARMED entry is as it was, and a FREE or PRIMING entry gives NOTARMED. -/
def Obligations.ResumeStartsDeadline : Prop :=
  ∀ (n : Index) (tag : CommandTag) (s : State), s.hostReady → s.proc.state = .idle →
    let b := s.commandJudged 4 n tag
    let e := b.entry n
    ((e.state = .free ∨ e.state = .priming) →
      exec (.resume n tag) s = .next { b with proc := s.proc.ended ⟨4, n, tag⟩ .notarmed }) ∧
    (e.state = .armed → exec (.resume n tag) s = .next { b with proc := s.proc.ended ⟨4, n, tag⟩ .done }) ∧
    (e.state = .suspended → exec (.resume n tag) s = .next { b with
      entries := b.entries.set n.toNat
        { e with
          state := .armed, holdoffState := .quiet, missCount := 0, deadlineRemaining := e.deadline
          deadlineState := if e.deadline = 0 then .off else .running } n.isLt
      proc := s.proc.ended ⟨4, n, tag⟩ .done })

/-- SNAPSHOT taken at IDLE (R119, R120, 10.5): the processor holds the 24 SUMMARY words and the 32 ENTRY REPORT words of
entry n, each with its offset, as they stand when the write is taken, and is PUBLISHING with DONE to follow. -/
def Obligations.SnapshotCapturesPart : Prop :=
  ∀ (n : Index) (tag : CommandTag) (s : State), s.hostReady → s.proc.state = .idle →
    let b := s.commandJudged 6 n tag
    let e := b.entry n
    let q := b.queue
    let j := b.journal
    let word := BitVec.ofNat 16
    let low := fun x : BitVec 32 => word (x.toNat % 65536)
    let high := fun x : BitVec 32 => word (x.toNat / 65536)
    let occupancy := if j.length = 0 then 0 else (j.produce + 2 * j.length - j.consume) % (2 * j.length)
    let writer := if j.length = 0 then 0 else if j.record.isSome then 3 else if occupancy = j.length then 2 else 1
    let bit := fun (p : Prop) [Decidable p] (v : Nat) => if p then v else 0
    let summary : List Word :=
      [ word b.freeCount, word (entryNumbers.countP fun m => decide ((b.entry m).state ≠ .free)),
        word ((q.list 0).length + (q.list 1).length + (q.list 2).length + (q.list 3).length),
        word (writer + bit (j.urgentPending = true) 256 + bit (j.attn = true) 512),
        word j.produce, word j.consume, word occupancy,
        low q.created, high q.created, low q.journaled, high q.journaled,
        low (q.lostOf 0), high (q.lostOf 0), low (q.lostOf 1), high (q.lostOf 1),
        low (q.lostOf 2), high (q.lostOf 2), low (q.lostOf 3), high (q.lostOf 3),
        b.timebase.pendingDivisor.getD b.timebase.divisor, b.scrubber.interval,
        low b.timebase.tick, high b.timebase.tick,
        word (bit (q.unreportedOf 0 ≠ 0) 1 + bit (q.unreportedOf 1 ≠ 0) 2 + bit (q.unreportedOf 2 ≠ 0) 4
          + bit (q.unreportedOf 3 ≠ 0) 8) ]
    let state := match e.state with
      | .free => 0
      | .priming => 1
      | .armed => 2
      | .suspended => 3
    let deadline := match e.deadlineState with
      | .off => 0
      | .running => 1
      | .stale => 2
    let report : List Word :=
      [ word (n.toNat + 256 * state), word (bit (e.holdoffState = .holding) 1 + 256 * deadline), e.merge.count,
        word (e.missCount.toNat + 256 * e.missLimit.toNat), e.eventCount, word (e.base.toNat % 65536),
        word (e.base.toNat / 65536 + 256 * e.span.toNat), e.holdoffRemaining, e.deadlineRemaining,
        0, 0, 0, 0, 0, 0, 0 ]
      ++ (List.range 16).map fun k => if k < e.span.toNat then b.shadow n k else 0
    ∃ t, exec (.snapshot n tag) s = .next t ∧ t = { b with proc := t.proc } ∧
      t.proc = Processor.present { s.proc with
        state := .publishing, slot := some ⟨6, n, tag⟩, readWords := [], result := some .done
        capture := ((List.range 24).map (0x020 + ·)).zip summary ++ ((List.range 32).map (0x040 + ·)).zip report }

/-- FLUSH taken at IDLE (R47, R118): the pending merge of every ARMED entry is reported, in ascending entry index, and
cleared; the entries go on holding, and DONE follows. -/
def Obligations.FlushReportsMerges : Prop :=
  ∀ (n : Index) (tag : CommandTag) (s : State), s.hostReady → s.proc.state = .idle →
    let b := s.commandJudged 7 n tag
    let merging := fun m : Index => (b.entry m).state = .armed ∧ (b.entry m).merge.count ≠ 0
    ∃ t, exec (.flush n tag) s = .next t ∧
      t = { b with
        entries := t.entries
        queue := (b.queue.arriveAll
          ((entryNumbers.filter fun m => decide (merging m)).map fun m =>
            b.mergedEvent m b.timebase.tick)).meetTake s.takeDue
        proc := s.proc.ended ⟨7, n, tag⟩ .done } ∧
      ∀ m, t.entry m =
        if merging m then { b.entry m with eventCount := (b.entry m).eventCount + 1, merge := ⟨0, 0, 0, 0⟩ }
        else b.entry m

/-- RESTART, taken in every processor state (R126, R127, R107, R139, R145): every block returns to its reset values,
the Timebase keeps its counter, phase and divisor in force and is handed 25000, the start count rises, an ABORTED
completion is owed for the command in the slot or the one an earlier start-up still owed, and the first start-up write
is claimed. -/
def Obligations.RestartResetsThePart : Prop :=
  ∀ (n : Index) (tag : CommandTag) (s : State), s.hostReady →
    let owed := match s.proc.slot with
      | some c => some (⟨c.opcode, c.tag⟩ : OwedAborted)
      | none => s.proc.owedAborted
    ∃ t, exec (.restart n tag) s = .next t ∧ t.blocksReset ∧ t.port.resetAsserted = false ∧
      t.port.readData = s.port.readData ∧
      t.timebase = { s.timebase with pendingDivisor := some 25000 } ∧
      t.proc =
        { state := .starting, slot := none, restartTag := some tag, owedAborted := owed
          startupWrites := (if owed.isSome then [.aborted] else []) ++ [.presence, .produce, .restartDone]
          pendingRefusal := none, readWords := [], result := none, capture := [], claim := some .work
          startCount := s.proc.startCount + 1, cbsel := s.proc.cbsel } ∧
      t.freeCounter = s.freeCounter ∧ t.pending = s.pending ∧
      storesWord s.mem t.mem (s.cb 0x000) (BitVec.ofNat 16 (tag.toNat * 1024 + n.toNat * 16 + 15))

/-- A command other than RESTART written while the processor is not IDLE is refused with BUSY (R110, R112): the refusal
of its opcode and tag becomes the pending one, and nothing else changes beyond the write itself. -/
def Obligations.BusyRefusesCommands : Prop :=
  ∀ (c : Instr) (k : CommandSlot) (s : State), s.hostReady → s.proc.state ≠ .idle →
    commandFields c = some k → 1 ≤ k.opcode.toNat → k.opcode.toNat ≤ 14 →
    exec c s = .next { s.commandJudged k.opcode k.operand k.tag with
      proc := Processor.present { s.proc with
        pendingRefusal := some (BitVec.ofNat 16 (k.tag.toNat * 1024 + 0x02 * 16 + k.opcode.toNat)) } }

/-- A byte write to COMMAND is refused with PARTIAL in every processor state, with the fields of the unwritten lane
reported as 0; a full write of opcode 0 is ignored (R110, R112). -/
def Obligations.PartialAndZeroCommands : Prop :=
  ∀ (lanes : Lanes) (data : Word) (s : State), s.hostReady →
    let b := s.hostTaking.judged ⟨s.cb 0x000, lanes, data⟩
    let partialRefusal := fun (opcode tag : Nat) => exec (.hostWrite (s.cb 0x000) lanes data) s = .next { b with
      proc := Processor.present { s.proc with
        pendingRefusal := some (BitVec.ofNat 16 (tag * 1024 + 0x0B * 16 + opcode)) } }
    (lanes = ⟨true, false⟩ → partialRefusal (data.toNat % 16) 0) ∧
    (lanes = ⟨false, true⟩ → partialRefusal 0 (data.toNat / 1024)) ∧
    (lanes = ⟨true, true⟩ → data.toNat % 16 = 0 → exec (.hostWrite (s.cb 0x000) lanes data) s = .next b)

/-- The processor's one claim (R108): a claim presented stays; with none presented, a REFUSAL write of its own that
waits goes ahead of the current work; the current work has an access to present in every state but IDLE and WAITING. -/
def Obligations.RefusalIsClaimedFirst : Prop :=
  ∀ p : Processor,
    let refusal := p.pendingRefusal ≠ none ∧ StartupWrite.refusal ∉ p.startupWrites
    let work := (p.state = .starting ∧ p.startupWrites ≠ []) ∨ p.state = .reading ∨ p.state = .filling ∨
      p.state = .publishing
    (p.claim ≠ none → p.present = p) ∧
    (p.claim = none → refusal → p.present = { p with claim := some .refusal }) ∧
    (p.claim = none → ¬refusal → work → p.present = { p with claim := some .work }) ∧
    (p.claim = none → ¬refusal → ¬work → p.present = p)

/-! ## The reads of a command -/

/-- COMMAND_READ, not the last of its command (R114): the value the word held is kept, and the next read is claimed. -/
def Obligations.CommandReadKeepsWord : Prop :=
  ∀ (c : CommandSlot) (earlier later : List Nat) (offset : Nat) (s : State), s.readsNext c earlier offset later →
    later ≠ [] →
    exec .commandRead s = .next { s.afterRead offset with proc := (s.afterRead offset).proc.present }

/-- The fields of an entry descriptor (10.3), as d0 to d7 give them. -/
def Obligations.DescriptorLayout : Prop :=
  ∀ d0 d1 d2 d3 d4 d5 d6 d7 : Word,
    let d := descriptorOf [d0, d1, d2, d3, d4, d5, d6, d7]
    d.base.toNat = d0.toNat + 65536 * (d1.toNat % 16) ∧ d.span.toNat = d1.toNat / 16 % 32 ∧
    d.senseCode.toNat = d1.toNat / 512 % 8 ∧ d.cls.toNat = d1.toNat / 4096 % 4 ∧
    d.startSuspended = decide (d1.toNat / 16384 % 2 = 1) ∧ d.spareD1 = decide (32768 ≤ d1.toNat) ∧
    d.mask = d2 ∧ d.pattern = d3 ∧ d.tag = d4 ∧ d.holdoff = d5 ∧ d.deadline = d6 ∧
    d.missLimit.toNat = d7.toNat % 16 ∧ d.spareD7.toNat = d7.toNat / 16

/-- The read of d7 of a LOAD (R6, R10, R11, R12, R115): the first check that fails ends the command with its code and
changes nothing else; otherwise the lowest-numbered free slots are claimed, cleared, the entry takes the descriptor's
fields and is PRIMING, and the processor is FILLING. -/
def Obligations.LoadChecksThenPrimes : Prop :=
  ∀ (c : CommandSlot) (earlier : List Nat) (offset : Nat) (s : State), s.readsNext c earlier offset [] → c.opcode = 1 →
    s.slotsWf →
    let n := c.operand
    let b := s.afterRead offset
    let d := s.descriptorRead offset
    let fails := fun r : ResultCode => exec .commandRead s = .next { b with proc := b.proc.publishing r }
    let inuse := (s.entry n).state ≠ .free
    let noroom := s.freeCount < d.span.toNat
    let overlap := ∃ x, d.base.toNat ≤ x ∧ x < d.base.toNat + d.span.toNat ∧ s.forbiddenWord x
    let claimed := s.freeSlots.take d.span.toNat
    (inuse → fails .inuse) ∧
    (¬inuse → d.isIllegal → fails .baddesc) ∧
    (¬inuse → ¬d.isIllegal → noroom → fails .noroom) ∧
    (¬inuse → ¬d.isIllegal → ¬noroom → overlap → fails .overlap) ∧
    (¬inuse → ¬d.isIllegal → ¬noroom → ¬overlap → ∃ t, exec .commandRead s = .next t ∧
      t = { b with
        entries := b.entries.set n.toNat (t.entry n) n.isLt
        slots := t.slots
        freeCount := s.freeCount - d.span.toNat
        proc := Processor.present { b.proc with state := .filling } } ∧
      (∀ k, t.slot k = if k ∈ claimed then { value := 0, lowerKnown := false, upperKnown := false, held := true }
        else s.slot k) ∧
      (t.entry n).hasRule d ∧
      t.entry n = { t.entry n with
        state := .priming, base := d.base, span := d.span, slots := claimed
        primingTarget := if d.startSuspended = true then .suspended else .armed
        holdoffState := .quiet, holdoffRemaining := 0, merge := ⟨0, 0, 0, 0⟩
        deadlineState := .off, deadlineRemaining := 0, missCount := 0, eventCount := 0, primeProgress := 0 })

/-- The read of d7 of a RETUNE (R22, R50, R64, R116): the first check that fails ends the command with its code and
changes nothing else; otherwise a pending merge is reported under the old class and tag, the rule fields are the
descriptor's, the holdoff is QUIET, and the deadline starts in an ARMED entry with a new period and is OFF otherwise.
-/
def Obligations.RetuneReplacesRule : Prop :=
  ∀ (c : CommandSlot) (earlier : List Nat) (offset : Nat) (s : State), s.readsNext c earlier offset [] → c.opcode = 5 →
    let n := c.operand
    let b := s.afterRead offset
    let d := s.descriptorRead offset
    let e := s.entry n
    let fails := fun r : ResultCode => exec .commandRead s = .next { b with proc := b.proc.publishing r }
    let notarmed := e.state = .free ∨ e.state = .priming
    let mismatch := e.base ≠ d.base ∨ e.span ≠ d.span
    (notarmed → fails .notarmed) ∧
    (¬notarmed → d.isIllegal → fails .baddesc) ∧
    (¬notarmed → ¬d.isIllegal → mismatch → fails .mismatch) ∧
    (¬notarmed → ¬d.isIllegal → ¬mismatch → ∃ t, exec .commandRead s = .next t ∧
      t = { b with
        entries := b.entries.set n.toNat (t.entry n) n.isLt
        queue := (s.queueAfterFlush n).meetTake s.takeDue
        proc := b.proc.publishing .done } ∧
      (t.entry n).hasRule d ∧
      t.entry n = { e with
        sense := (t.entry n).sense, mask := d.mask, pattern := d.pattern, cls := d.cls, tag := d.tag
        holdoff := d.holdoff, deadline := d.deadline, missLimit := d.missLimit
        eventCount := s.eventCountAfterFlush n, merge := ⟨0, 0, 0, 0⟩, holdoffState := .quiet, holdoffRemaining := 0
        missCount := 0
        deadlineState := if e.state = .armed ∧ d.deadline ≠ 0 then .running else .off
        deadlineRemaining := if e.state = .armed then d.deadline else 0 })

/-- The read of ARGUMENT of a MARK (R68, R121): a MARK event of the operand's class with the word read as its tag
arrives at the queue, and DONE follows. -/
def Obligations.MarkCreatesEvent : Prop :=
  ∀ (c : CommandSlot) (earlier : List Nat) (offset : Nat) (s : State), s.readsNext c earlier offset [] → c.opcode = 8 →
    let b := s.afterRead offset
    exec .commandRead s = .next { b with
      queue := (s.queue.arrive
        { kind := .mark, cls := BitVec.ofNat 2 (c.operand.toNat % 4), index := 0, offset := 0, old := 0, new := 0
          tag := Memory.readWord s.mem (s.cb 0x001), count := 0, time := s.timebase.tick }).meetTake s.takeDue
      proc := b.proc.publishing .done }

/-- The read of CB + 007h of a JOURNAL (R122, R123, R155, 10.4): the checks in their order; the first that fails ends
the command with its code and changes nothing else; otherwise the install request, with T = 0 for L = 0, is handed to
the Journal Writer and the processor is WAITING. That the request is handed here and not yet taken, also where the
writer is not WRITING and R101 has it taken at once, is the model's reading (DEDUCED, log 14): INSTALL_REQUEST_TAKEN
takes it. -/
def Obligations.JournalChecksThenWaits : Prop :=
  ∀ (c : CommandSlot) (earlier : List Nat) (offset : Nat) (w0 w1 w2 w3 : Word) (s : State),
    s.readsNext c earlier offset [] → c.opcode = 9 → (s.afterRead offset).proc.readWords = [w0, w1, w2, w3] →
    let b := s.afterRead offset
    let fails := fun r : ResultCode => exec .commandRead s = .next { b with proc := b.proc.publishing r }
    let base := w0.toNat + 65536 * (w1.toNat % 16)
    let format := if w1.toNat / 256 % 2 = 1 then Format.full else Format.compact
    let words := w2.toNat * (if format = .full then 8 else 4)
    let spare := w1.toNat / 512 ≠ 0 ∨ w1.toNat / 16 % 16 ≠ 0
    let baddesc := spare ∨ (w2.toNat ≠ 0 ∧ ¬(4 ≤ w2.toNat ∧ w2.toNat ≤ 4096)) ∨
      (w2.toNat ≠ 0 ∧ ¬(1 ≤ w3.toNat ∧ w3.toNat ≤ w2.toNat)) ∨ (w2.toNat ≠ 0 ∧ base + words - 1 > 0xFFFFF)
    let ringWord := fun x : Nat => base ≤ x ∧ x < base + words
    let cb := s.proc.cbsel.toNat * 0x40000
    let overlap := (∃ x, ringWord x ∧ cb ≤ x ∧ x ≤ cb + 0x2FF) ∨
      ∃ (x : Nat) (n : Index), ringWord x ∧ (s.entry n).state ≠ .free ∧ (s.entry n).base.toNat ≤ x ∧
        x < (s.entry n).base.toNat + (s.entry n).span.toNat
    (baddesc → fails .baddesc) ∧
    (¬baddesc → overlap → fails .overlap) ∧
    (¬baddesc → ¬overlap → exec .commandRead s = .next { b with
      journal := { s.journal with
        install := some
          { base := BitVec.ofNat 20 base, length := w2.toNat, format := format
            threshold := if w2.toNat = 0 then 0 else w3.toNat, taken := false } }
      proc := Processor.present { b.proc with state := .waiting } })

/-- The read of CB + 009h of a TIMEBASE (R124, R145, R148): a divisor of 0 gives BADDESC and changes nothing else; any
other is handed to the Timebase, and the scrub countdown restarts with the interval read, or stops when it is 0. -/
def Obligations.TimebaseHandsDivisor : Prop :=
  ∀ (c : CommandSlot) (earlier : List Nat) (offset : Nat) (divisor interval : Word) (s : State),
    s.readsNext c earlier offset [] → c.opcode = 10 → (s.afterRead offset).proc.readWords = [divisor, interval] →
    let b := s.afterRead offset
    (divisor = 0 → exec .commandRead s = .next { b with proc := b.proc.publishing .baddesc }) ∧
    (divisor ≠ 0 → exec .commandRead s = .next { b with
      timebase := { s.timebase with pendingDivisor := some divisor }
      scrubber := { s.scrubber with
        interval := interval, countdown := interval, running := decide (interval ≠ 0) }
      proc := b.proc.publishing .done })

/-- PRIME_READ (R13, R15, R17, R55): the slot of the offset takes the bytes read where no host write has given them, its
marks are cleared and the prime progress rises; after the last read the entry takes its priming target with its deadline
started, and the processor claims COMPLETION with DONE. -/
def Obligations.PrimeReadCompletesSlot : Prop :=
  ∀ (c : CommandSlot) (s : State), s.internalReady .processor → s.proc.claim = some .work → s.proc.state = .filling →
    s.proc.slot = some c → (s.entry c.operand).state = .priming → (s.entry c.operand).wf →
    let n := c.operand
    let e := s.entry n
    let k := e.primeProgress.toNat
    let read := Memory.readWord s.mem (BitVec.ofNat 20 (e.base.toNat + k))
    let number := e.slotAt k
    let slot := s.slot number
    let value := joinBytes (if slot.upperKnown then upperByte slot.value else upperByte read)
      (if slot.lowerKnown then lowerByte slot.value else lowerByte read)
    let filled : State := { s.internalTaking with
      slots := s.slots.set number.toNat
        { value := value, lowerKnown := false, upperKnown := false, held := slot.held } number.isLt }
    let claimless := { s.proc with claim := none }
    (k + 1 < e.span.toNat → exec .primeRead s = .next { filled with
      entries := s.entries.set n.toNat { e with primeProgress := e.primeProgress + 1 } n.isLt
      proc := Processor.present claimless }) ∧
    (k + 1 = e.span.toNat → exec .primeRead s = .next { filled with
      entries := s.entries.set n.toNat
        { e with
          primeProgress := e.primeProgress + 1
          state := if e.primingTarget = .armed then .armed else .suspended
          deadlineState := if e.primingTarget = .armed ∧ e.deadline ≠ 0 then .running else .off
          deadlineRemaining := if e.primingTarget = .armed then e.deadline else 0 } n.isLt
      proc := claimless.publishing .done })

/-! ## The processor's writes -/

/-- SNAPSHOT_WRITE (R120): the next captured word goes to its offset, whatever has changed since the capture. -/
def Obligations.SnapshotWritesCapture : Prop :=
  ∀ (offset : Nat) (word : Word) (rest : List (Nat × Word)) (s : State), s.internalReady .processor →
    s.proc.claim = some .work → s.proc.state = .publishing → s.proc.capture = (offset, word) :: rest →
    ∃ t, exec .snapshotWrite s = .next t ∧
      t = { s.internalTaking with
        mem := t.mem, proc := Processor.present { s.proc with claim := none, capture := rest } } ∧
      storesWord s.mem t.mem (s.cb offset) word

/-- COMPLETION_WRITE (R113, 10.2): COMPLETION takes the opcode and tag of the command in the slot and its result code,
the slot is emptied and the processor is IDLE. -/
def Obligations.CompletionEndsCommand : Prop :=
  ∀ (c : CommandSlot) (r : ResultCode) (s : State), s.internalReady .processor → s.proc.claim = some .work →
    s.proc.state = .publishing → s.proc.capture = [] → s.proc.slot = some c → s.proc.result = some r →
    let code := match r with
      | .done => 1
      | .busy => 2
      | .badop => 3
      | .inuse => 4
      | .notarmed => 5
      | .noroom => 6
      | .overlap => 7
      | .baddesc => 8
      | .mismatch => 9
      | .aborted => 10
      | .partialWrite => 11
    ∃ t, exec .completionWrite s = .next t ∧
      t = { s.internalTaking with
        mem := t.mem
        proc := Processor.present { s.proc with
          claim := none, state := .idle, slot := none, readWords := [], result := none } } ∧
      storesWord s.mem t.mem (s.cb 0x010) (BitVec.ofNat 16 (c.tag.toNat * 1024 + code * 16 + c.opcode.toNat))

/-- REFUSAL_WRITE (R112): REFUSAL takes the pending refusal, and nothing is pending. -/
def Obligations.RefusalWriteEmptiesPending : Prop :=
  ∀ (word : Word) (s : State), s.internalReady .processor → s.proc.claim = some .refusal →
    s.proc.pendingRefusal = some word →
    ∃ t, exec .refusalWrite s = .next t ∧
      t = { s.internalTaking with
        mem := t.mem, proc := Processor.present { s.proc with claim := none, pendingRefusal := none } } ∧
      storesWord s.mem t.mem (s.cb 0x011) word

/-- STARTUP_WRITE (R107, R109, R127): the first start-up write left goes to its word with its value; after the REFUSAL
write nothing is pending, after the ABORTED completion none is owed, and after the last write the processor is IDLE
with the start-up record empty. -/
def Obligations.StartupWritesInOrder : Prop :=
  ∀ (w : StartupWrite) (rest : List StartupWrite) (s : State), s.internalReady .processor → s.proc.claim = some .work →
    s.proc.state = .starting → s.proc.startupWrites = w :: rest → s.proc.startupWf →
    ∃ t, exec .startupWrite s = .next t ∧
      t = { s.internalTaking with
        mem := t.mem
        proc := Processor.present { s.proc with
          claim := none, startupWrites := rest
          state := if rest = [] then .idle else .starting
          pendingRefusal := if w = .refusal then none else s.proc.pendingRefusal
          restartTag := if rest = [] then none else s.proc.restartTag
          owedAborted := if rest = [] ∨ w = .aborted then none else s.proc.owedAborted } } ∧
      match w with
      | .zeroCompletion => storesWord s.mem t.mem (s.cb 0x010) 0
      | .refusal => ∀ v, s.proc.pendingRefusal = some v → storesWord s.mem t.mem (s.cb 0x011) v
      | .aborted => ∀ c, s.proc.owedAborted = some c →
          storesWord s.mem t.mem (s.cb 0x010) (BitVec.ofNat 16 (c.tag.toNat * 1024 + 0x0A * 16 + c.opcode.toNat))
      | .presence => storesWord s.mem t.mem (s.cb 0x013) (BitVec.ofNat 16 (s.proc.startCount.toNat * 256 + 1))
      | .produce => storesWord s.mem t.mem (s.cb 0x012) 0
      | .restartDone => ∀ tag, s.proc.restartTag = some tag →
          storesWord s.mem t.mem (s.cb 0x010) (BitVec.ofNat 16 (tag.toNat * 1024 + 0x01 * 16 + 15))

/-! ## The memory port -/

/-- PORT_GRANT (R135, R136, R137, R138): with the memory free and an access waiting, the host is granted unless g is 8
and an internal claim waits; an internal grant goes to the first claimant from the pointer on. A granted read returns
the word memory holds and is taken at once (R129; log 10). -/
def Obligations.ArbiterGrantsByTable : Prop :=
  ∀ s : State, s.port.guard ≤ 8 →
    let p := s.port
    let waits := s.claims .processor = true ∨ s.claims .writer = true ∨ s.claims .scrubber = true
    let guard := if waits then p.guard + 1 else 0
    (p.resetAsserted = true ∨ p.performing ≠ none ∨ (p.hostWaiting = none ∧ ¬waits) → exec .portGrant s = .next s) ∧
    (p.resetAsserted = false → p.performing = none →
      (∀ w, p.hostWaiting = some (.write w) → (¬waits ∨ p.guard < 8) → exec .portGrant s = .next { s with
        port := { p with hostWaiting := none, performing := some (.host w), guard := guard, wait := false } }) ∧
      (∀ a, p.hostWaiting = some (.read a) → (¬waits ∨ p.guard < 8) → exec .portGrant s = .next { s with
        port := { p with
          hostWaiting := none, guard := guard, wait := false, readData := Memory.readWord s.mem a } }) ∧
      (∀ c, (p.hostWaiting = none ∨ p.guard = 8) → s.claims c = true →
        (c = p.pointer ∨ (s.claims p.pointer = false ∧ (c = p.pointer.next ∨ s.claims p.pointer.next = false))) →
        exec .portGrant s = .next { s with
          port := { p with performing := some (.internal c), guard := 0, pointer := c.next } }))

/-- HOST_ACCESS_PRESENTED (R129, R135, R136, R137, R138, R139): an access that the arbiter grants at once is not held;
one that finds an internal access performed, or must give way to one, waits with WAIT asserted. A host write of any row
that comes to be taken then (HOST_WRITE, CONSUME, a command or RESTART) waits the same way, with no effect on any block
(R132; log 9). While the reset input is asserted the access is forwarded, and a host write of any row reaches memory
and is announced to no block. A second access while one is in progress cannot occur, and the model gives it no effect
(log 11). -/
def Obligations.HeldAccessWaits : Prop :=
  ∀ (access : HostAccess) (s : State),
    let writes := fun c : Instr => ∃ w, access = .write w ∧ s.hostWriteOf c = some w
    (s.port.resetAsserted = true → ∃ t, exec (.hostAccessPresented access) s = .next t ∧
      t = { s with mem := t.mem, port := { s.port with readData := t.port.readData } } ∧
      (∀ c, writes c → exec c s = .next t) ∧
      match access with
      | .read a => t.mem = s.mem ∧ t.port.readData = Memory.readWord s.mem a
      | .write w => t.port.readData = s.port.readData ∧ ∀ x, Memory.readByte t.mem x =
          if w.lanes.upper = true ∧ x = upperCell w.addr then upperByte w.data
          else if w.lanes.lower = true ∧ x = lowerCell w.addr then lowerByte w.data
          else Memory.readByte s.mem x) ∧
    (s.port.resetAsserted = false → s.hostInProgress = true → exec (.hostAccessPresented access) s = .next s) ∧
    (s.hostHeld → ∃ t who,
      t = { s with port := { s.port with
        hostWaiting := some access
        wait := true
        performing := some (.internal who)
        guard := if s.port.performing = none then 0 else s.port.guard
        pointer := if s.port.performing = none then who.next else s.port.pointer } } ∧
      (s.port.performing = none → s.claims who = true ∧
        (who = s.port.pointer ∨ (s.claims s.port.pointer = false ∧
          (who = s.port.pointer.next ∨ s.claims s.port.pointer.next = false)))) ∧
      (s.port.performing ≠ none → s.port.performing = some (.internal who)) ∧
      (s.hostInProgress = false → exec (.hostAccessPresented access) s = .next t) ∧
      ∀ c, writes c → exec c s = .next t) ∧
    (s.port.resetAsserted = false → s.hostInProgress = false → s.port.performing = none →
      (s.internalWaits = false ∨ s.port.guard < 8) →
      let granted := { s.port with
        guard := if s.internalWaits = true then s.port.guard + 1 else 0, hostWaiting := none, wait := false }
      exec (.hostAccessPresented access) s = .next { s with
        port := match access with
          | .read a => { granted with readData := Memory.readWord s.mem a }
          | .write w => { granted with performing := some (.host w) } })

/-- A row of the part's own accesses whose access its claimant does not present has no effect, whatever access the port
would grant (R88, R108, R109, R113, R120, R134; log 12): PRODUCE is not published before the record's last word, nor
COMPLETION written before the last SNAPSHOT word. A presented access that the port does not perform now has no effect
but the arbiter's grant of another access, if the memory is free: it waits (R134, R135). INSTALLATION takes a request
that the writer, not WRITING, has not yet taken, and then waits in the same way (log 14). -/
def Obligations.UngrantedAccessWaits : Prop :=
  ∀ (c : Instr) (who : Claimant) (s : State),
    (c, who) ∈ [(Instr.commandRead, Claimant.processor), (.primeRead, .processor), (.snapshotWrite, .processor),
      (.completionWrite, .processor), (.refusalWrite, .processor), (.startupWrite, .processor),
      (.recordWordWrite, .writer), (.publication, .writer), (.installation, .writer), (.scrubRead, .scrubber)] →
    (¬s.presentsAccess c → exec c s = .next s) ∧
    (s.presentsAccess c →
      let presented := if c = .installation then s.requestTaken else s
      ¬presented.internalReady who → exec c s = .next presented.grant)

/-- MEMORY_SIDE_AGENT_WRITE (R133): memory changes, and no block is told. -/
def Obligations.MemorySideWriteTellsNoBlock : Prop :=
  ∀ (a : Addr) (data : Word) (s : State), ∃ t, exec (.memorySideAgentWrite a data) s = .next t ∧
    t = { s with mem := t.mem } ∧ storesWord s.mem t.mem a data

/-! ## What every step keeps -/

/-- Every step keeps the canonical form of memory (log 19): addresses strictly rising and inside the address space, and
no cell equal to what an unlisted byte reads as. -/
def Obligations.StepsKeepMemoryForm : Prop :=
  ∀ s t : State, step s = .next t → Memory.wf s.mem → Memory.wf t.mem

/-- The balance of R79 on the 32-bit values, kept by every step from every state that has it: created = journaled +
queued + in flight + lost. Both resets set every term to 0. -/
def Obligations.StepsKeepBalance : Prop :=
  let allZero := fun t : State => t.queue.created = 0 ∧ t.queue.journaled = 0 ∧ t.queue.depth = 0 ∧
    t.journal.eventsInFlight = 0 ∧ ∀ c, t.queue.lostOf c = 0
  (∀ s t : State, step s = .next t → s.balanced → t.balanced) ∧
  (∀ s t : State, exec .pinReset s = .next t → allZero t ∧ t.balanced) ∧
  ∀ (n : Index) (tag : CommandTag) (s t : State), s.hostReady → exec (.restart n tag) s = .next t →
    allZero t ∧ t.balanced

/-- Every step keeps the Watch Table and the Shadow Store as chapters 1, 3 and 4 allow: the entries' fields in
agreement (R1, R11, R41, R54), the slots' (R5), the free count with the spans at 256 (R7), and a scrub claim that is
not void at a word of an ARMED or SUSPENDED entry, with that word's address (R149, R150). -/
def Obligations.StepsKeepWatchTable : Prop :=
  ∀ s t : State, step s = .next t → s.entriesWf → s.slotsWf → s.slotsAccounted →
    t.entriesWf ∧ t.slotsWf ∧ t.slotsAccounted

/-- Every step keeps the Journal Writer as chapter 6 allows: a legal ring, indices below 2L, an occupancy of at most L,
the urgent index within the unconsumed records, a record in flight at index P with room for it, and ATTN at its level
(R84 to R86, R98, R99, R101). And every step keeps the Event Queue at no more than 32 events (R69), and full while a
take that an arrival met is still to be made (the model's own field `takeMet`, log 22). -/
def Obligations.StepsKeepJournalWriterAndQueue : Prop :=
  ∀ s t : State, step s = .next t → (s.journal.wf → t.journal.wf) ∧ (s.queue.wf → t.queue.wf)

/-- Every step keeps the Command Processor in agreement with itself and with the part (R18, R107, R108, R123), and keeps
every watched word out of the forbidden places (R10). -/
def Obligations.StepsKeepProcessorAndPlaces : Prop :=
  ∀ s t : State, step s = .next t → s.processorWf → s.placesWf → t.processorWf ∧ t.placesWf

/-- Every step keeps the Port Arbiter as chapter 8 allows (R134, R136, R138, R139): g from 0 to 8, WAIT asserted
exactly for a waiting host access, and an internal access performed only for a claim that still stands. And every step
keeps the timers of chapter 9 as their rules allow: neither divisor 0 and the phase below the divisor in force (R143),
and the scrub countdown running exactly while S is above 0, then with 1 to S ticks left (R147, R148). -/
def Obligations.StepsKeepPortAndTimers : Prop :=
  ∀ s t : State, step s = .next t → (s.portWf → t.portWf) ∧ (s.timersWf → t.timersWf)
end

