-- ==== Sys2Proof/Laws/Entries.lean ====
section
/-! SUPPORT. Entries and shadow slots: what one reads after a write of one, and what claiming and releasing slots do. -/

namespace Sys2Proof.Machine

@[simp] theorem entry_setEntry_same (s : State) (n : Index) (e : Entry) : (s.setEntry n e).entry n = e := by
  simp [State.entry, State.setEntry]

theorem entry_setEntry_ne (s : State) {n m : Index} (e : Entry) (h : m ≠ n) : (s.setEntry n e).entry m = s.entry m := by
  have : n.toNat ≠ m.toNat := fun hh => h (BitVec.eq_of_toNat_eq hh.symm)
  simp [State.entry, State.setEntry, Vector.getElem_set_ne _ _ this]

theorem entry_setEntry (s : State) (n m : Index) (e : Entry) :
    (s.setEntry n e).entry m = if m = n then e else s.entry m := by
  by_cases h : m = n
  · subst h; simp
  · rw [if_neg h, entry_setEntry_ne s e h]

@[simp] theorem setEntry_setEntry (s : State) (n : Index) (e e' : Entry) :
    (s.setEntry n e).setEntry n e' = s.setEntry n e' := by
  simp [State.setEntry]

@[simp] theorem slot_setSlot_same (s : State) (k : SlotNumber) (v : Slot) : (s.setSlot k v).slot k = v := by
  simp [State.slot, State.setSlot]

theorem slot_setSlot (s : State) (k i : SlotNumber) (v : Slot) :
    (s.setSlot k v).slot i = if i = k then v else s.slot i := by
  by_cases h : i = k
  · subst h; simp
  · have : k.toNat ≠ i.toNat := fun hh => h (BitVec.eq_of_toNat_eq hh.symm)
    simp [State.slot, State.setSlot, Vector.getElem_set_ne _ _ this, h]

/-- A slot after a list of slots is written, each by a function of what it held. -/
theorem slot_foldl_setSlot (f : Slot → Slot) (hf : ∀ v, f (f v) = f v) (ks : List SlotNumber) (s : State)
    (i : SlotNumber) :
    (ks.foldl (fun t k => t.setSlot k (f (t.slot k))) s).slot i = if i ∈ ks then f (s.slot i) else s.slot i := by
  induction ks generalizing s with
  | nil => simp
  | cons k ks ih =>
    rw [List.foldl_cons, ih, slot_setSlot]
    by_cases hik : i = k
    · subst hik
      by_cases hm : i ∈ ks <;> simp [hm, hf]
    · by_cases hm : i ∈ ks <;> simp [hik, hm]

theorem slot_withFreeCount (s : State) (c : Nat) (i : SlotNumber) : State.slot { s with freeCount := c } i = s.slot i := rfl

/-- Claimed slots are held and cleared (R6), and the others are as they were. -/
theorem slot_claimSlots (s : State) (ks : List SlotNumber) (i : SlotNumber) :
    (s.claimSlots ks).slot i = if i ∈ ks then ⟨0, false, false, true⟩ else s.slot i :=
  slot_foldl_setSlot (fun _ => ⟨0, false, false, true⟩) (fun _ => rfl) ks s i

/-- Released slots are free with their values kept (R7), and the others are as they were. -/
theorem slot_releaseSlots (s : State) (ks : List SlotNumber) (span : Nat) (i : SlotNumber) :
    (s.releaseSlots ks span).slot i = if i ∈ ks then { s.slot i with held := false } else s.slot i :=
  slot_foldl_setSlot (fun v => { v with held := false }) (fun _ => rfl) ks s i

theorem mem_entryNumbers (n : Index) : n ∈ entryNumbers := by
  simp only [entryNumbers, List.mem_map, List.mem_range]
  exact ⟨n.toNat, n.isLt, by simp⟩

end Sys2Proof.Machine
end

