-- ==== Sys2Proof/Laws/State.lean ====
section
/-! SUPPORT. The fields that each update of the state leaves alone, one lemma per field per update, true by `rfl`. -/

namespace Sys2Proof.Machine

@[simp] theorem State.setEntry_slots (s : State) (n : Index) (e : Entry) : (s.setEntry n e).slots = s.slots := rfl
@[simp] theorem State.setEntry_freeCount (s : State) (n : Index) (e : Entry) : (s.setEntry n e).freeCount = s.freeCount := rfl
@[simp] theorem State.setEntry_queue (s : State) (n : Index) (e : Entry) : (s.setEntry n e).queue = s.queue := rfl
@[simp] theorem State.setEntry_journal (s : State) (n : Index) (e : Entry) : (s.setEntry n e).journal = s.journal := rfl
@[simp] theorem State.setEntry_proc (s : State) (n : Index) (e : Entry) : (s.setEntry n e).proc = s.proc := rfl
@[simp] theorem State.setEntry_port (s : State) (n : Index) (e : Entry) : (s.setEntry n e).port = s.port := rfl
@[simp] theorem State.setEntry_timebase (s : State) (n : Index) (e : Entry) : (s.setEntry n e).timebase = s.timebase := rfl
@[simp] theorem State.setEntry_scrubber (s : State) (n : Index) (e : Entry) : (s.setEntry n e).scrubber = s.scrubber := rfl
@[simp] theorem State.setEntry_mem (s : State) (n : Index) (e : Entry) : (s.setEntry n e).mem = s.mem := rfl
@[simp] theorem State.setEntry_freeCounter (s : State) (n : Index) (e : Entry) : (s.setEntry n e).freeCounter = s.freeCounter := rfl
@[simp] theorem State.setEntry_pending (s : State) (n : Index) (e : Entry) : (s.setEntry n e).pending = s.pending := rfl

@[simp] theorem State.setSlot_entries (s : State) (k : SlotNumber) (v : Slot) : (s.setSlot k v).entries = s.entries := rfl
@[simp] theorem State.setSlot_freeCount (s : State) (k : SlotNumber) (v : Slot) : (s.setSlot k v).freeCount = s.freeCount := rfl
@[simp] theorem State.setSlot_queue (s : State) (k : SlotNumber) (v : Slot) : (s.setSlot k v).queue = s.queue := rfl
@[simp] theorem State.setSlot_journal (s : State) (k : SlotNumber) (v : Slot) : (s.setSlot k v).journal = s.journal := rfl
@[simp] theorem State.setSlot_proc (s : State) (k : SlotNumber) (v : Slot) : (s.setSlot k v).proc = s.proc := rfl
@[simp] theorem State.setSlot_port (s : State) (k : SlotNumber) (v : Slot) : (s.setSlot k v).port = s.port := rfl
@[simp] theorem State.setSlot_timebase (s : State) (k : SlotNumber) (v : Slot) : (s.setSlot k v).timebase = s.timebase := rfl
@[simp] theorem State.setSlot_scrubber (s : State) (k : SlotNumber) (v : Slot) : (s.setSlot k v).scrubber = s.scrubber := rfl
@[simp] theorem State.setSlot_mem (s : State) (k : SlotNumber) (v : Slot) : (s.setSlot k v).mem = s.mem := rfl
@[simp] theorem State.setSlot_freeCounter (s : State) (k : SlotNumber) (v : Slot) : (s.setSlot k v).freeCounter = s.freeCounter := rfl
@[simp] theorem State.setSlot_pending (s : State) (k : SlotNumber) (v : Slot) : (s.setSlot k v).pending = s.pending := rfl

@[simp] theorem State.setShadow_entries (s : State) (n : Index) (o : Nat) (v : Word) : (s.setShadow n o v).entries = s.entries := rfl
@[simp] theorem State.setShadow_freeCount (s : State) (n : Index) (o : Nat) (v : Word) : (s.setShadow n o v).freeCount = s.freeCount := rfl
@[simp] theorem State.setShadow_queue (s : State) (n : Index) (o : Nat) (v : Word) : (s.setShadow n o v).queue = s.queue := rfl
@[simp] theorem State.setShadow_journal (s : State) (n : Index) (o : Nat) (v : Word) : (s.setShadow n o v).journal = s.journal := rfl
@[simp] theorem State.setShadow_proc (s : State) (n : Index) (o : Nat) (v : Word) : (s.setShadow n o v).proc = s.proc := rfl
@[simp] theorem State.setShadow_port (s : State) (n : Index) (o : Nat) (v : Word) : (s.setShadow n o v).port = s.port := rfl
@[simp] theorem State.setShadow_timebase (s : State) (n : Index) (o : Nat) (v : Word) : (s.setShadow n o v).timebase = s.timebase := rfl
@[simp] theorem State.setShadow_scrubber (s : State) (n : Index) (o : Nat) (v : Word) : (s.setShadow n o v).scrubber = s.scrubber := rfl
@[simp] theorem State.setShadow_mem (s : State) (n : Index) (o : Nat) (v : Word) : (s.setShadow n o v).mem = s.mem := rfl
@[simp] theorem State.setShadow_freeCounter (s : State) (n : Index) (o : Nat) (v : Word) : (s.setShadow n o v).freeCounter = s.freeCounter := rfl
@[simp] theorem State.setShadow_pending (s : State) (n : Index) (o : Nat) (v : Word) : (s.setShadow n o v).pending = s.pending := rfl

@[simp] theorem State.markShadow_entries (s : State) (n : Index) (o : Nat) (l : Lanes) (d : Word) : (s.markShadow n o l d).entries = s.entries := rfl
@[simp] theorem State.markShadow_freeCount (s : State) (n : Index) (o : Nat) (l : Lanes) (d : Word) : (s.markShadow n o l d).freeCount = s.freeCount := rfl
@[simp] theorem State.markShadow_queue (s : State) (n : Index) (o : Nat) (l : Lanes) (d : Word) : (s.markShadow n o l d).queue = s.queue := rfl
@[simp] theorem State.markShadow_journal (s : State) (n : Index) (o : Nat) (l : Lanes) (d : Word) : (s.markShadow n o l d).journal = s.journal := rfl
@[simp] theorem State.markShadow_proc (s : State) (n : Index) (o : Nat) (l : Lanes) (d : Word) : (s.markShadow n o l d).proc = s.proc := rfl
@[simp] theorem State.markShadow_port (s : State) (n : Index) (o : Nat) (l : Lanes) (d : Word) : (s.markShadow n o l d).port = s.port := rfl
@[simp] theorem State.markShadow_timebase (s : State) (n : Index) (o : Nat) (l : Lanes) (d : Word) : (s.markShadow n o l d).timebase = s.timebase := rfl
@[simp] theorem State.markShadow_scrubber (s : State) (n : Index) (o : Nat) (l : Lanes) (d : Word) : (s.markShadow n o l d).scrubber = s.scrubber := rfl
@[simp] theorem State.markShadow_mem (s : State) (n : Index) (o : Nat) (l : Lanes) (d : Word) : (s.markShadow n o l d).mem = s.mem := rfl
@[simp] theorem State.markShadow_freeCounter (s : State) (n : Index) (o : Nat) (l : Lanes) (d : Word) : (s.markShadow n o l d).freeCounter = s.freeCounter := rfl
@[simp] theorem State.markShadow_pending (s : State) (n : Index) (o : Nat) (l : Lanes) (d : Word) : (s.markShadow n o l d).pending = s.pending := rfl

@[simp] theorem State.primeShadow_entries (s : State) (n : Index) (o : Nat) (w : Word) : (s.primeShadow n o w).entries = s.entries := rfl
@[simp] theorem State.primeShadow_freeCount (s : State) (n : Index) (o : Nat) (w : Word) : (s.primeShadow n o w).freeCount = s.freeCount := rfl
@[simp] theorem State.primeShadow_queue (s : State) (n : Index) (o : Nat) (w : Word) : (s.primeShadow n o w).queue = s.queue := rfl
@[simp] theorem State.primeShadow_journal (s : State) (n : Index) (o : Nat) (w : Word) : (s.primeShadow n o w).journal = s.journal := rfl
@[simp] theorem State.primeShadow_proc (s : State) (n : Index) (o : Nat) (w : Word) : (s.primeShadow n o w).proc = s.proc := rfl
@[simp] theorem State.primeShadow_port (s : State) (n : Index) (o : Nat) (w : Word) : (s.primeShadow n o w).port = s.port := rfl
@[simp] theorem State.primeShadow_timebase (s : State) (n : Index) (o : Nat) (w : Word) : (s.primeShadow n o w).timebase = s.timebase := rfl
@[simp] theorem State.primeShadow_scrubber (s : State) (n : Index) (o : Nat) (w : Word) : (s.primeShadow n o w).scrubber = s.scrubber := rfl
@[simp] theorem State.primeShadow_mem (s : State) (n : Index) (o : Nat) (w : Word) : (s.primeShadow n o w).mem = s.mem := rfl
@[simp] theorem State.primeShadow_freeCounter (s : State) (n : Index) (o : Nat) (w : Word) : (s.primeShadow n o w).freeCounter = s.freeCounter := rfl
@[simp] theorem State.primeShadow_pending (s : State) (n : Index) (o : Nat) (w : Word) : (s.primeShadow n o w).pending = s.pending := rfl

@[simp] theorem State.emit_queue (s : State) (e : Event) : (s.emit e).queue = s.queue.arrive e := rfl
@[simp] theorem State.meetTake_entries (s t : State) : (s.meetTake t).entries = t.entries := rfl
@[simp] theorem State.meetTake_slots (s t : State) : (s.meetTake t).slots = t.slots := rfl
@[simp] theorem State.meetTake_freeCount (s t : State) : (s.meetTake t).freeCount = t.freeCount := rfl
@[simp] theorem State.meetTake_journal (s t : State) : (s.meetTake t).journal = t.journal := rfl
@[simp] theorem State.meetTake_proc (s t : State) : (s.meetTake t).proc = t.proc := rfl
@[simp] theorem State.meetTake_port (s t : State) : (s.meetTake t).port = t.port := rfl
@[simp] theorem State.meetTake_timebase (s t : State) : (s.meetTake t).timebase = t.timebase := rfl
@[simp] theorem State.meetTake_scrubber (s t : State) : (s.meetTake t).scrubber = t.scrubber := rfl
@[simp] theorem State.meetTake_mem (s t : State) : (s.meetTake t).mem = t.mem := rfl
@[simp] theorem State.meetTake_freeCounter (s t : State) : (s.meetTake t).freeCounter = t.freeCounter := rfl
@[simp] theorem State.meetTake_pending (s t : State) : (s.meetTake t).pending = t.pending := rfl
@[simp] theorem State.meetTake_queue (s t : State) : (s.meetTake t).queue = t.queue.meetTake s.takeDue := rfl
@[simp] theorem State.emit_entries (s : State) (e : Event) : (s.emit e).entries = s.entries := rfl
@[simp] theorem State.emit_slots (s : State) (e : Event) : (s.emit e).slots = s.slots := rfl
@[simp] theorem State.emit_freeCount (s : State) (e : Event) : (s.emit e).freeCount = s.freeCount := rfl
@[simp] theorem State.emit_journal (s : State) (e : Event) : (s.emit e).journal = s.journal := rfl
@[simp] theorem State.emit_proc (s : State) (e : Event) : (s.emit e).proc = s.proc := rfl
@[simp] theorem State.emit_port (s : State) (e : Event) : (s.emit e).port = s.port := rfl
@[simp] theorem State.emit_timebase (s : State) (e : Event) : (s.emit e).timebase = s.timebase := rfl
@[simp] theorem State.emit_scrubber (s : State) (e : Event) : (s.emit e).scrubber = s.scrubber := rfl
@[simp] theorem State.emit_mem (s : State) (e : Event) : (s.emit e).mem = s.mem := rfl
@[simp] theorem State.emit_freeCounter (s : State) (e : Event) : (s.emit e).freeCounter = s.freeCounter := rfl
@[simp] theorem State.emit_pending (s : State) (e : Event) : (s.emit e).pending = s.pending := rfl

@[simp] theorem State.emitFor_slots (s : State) (n : Index) (k : EventKind) (o : BitVec 4) (a b : Word) (c : BitVec 16) : (s.emitFor n k o a b c).slots = s.slots := rfl
@[simp] theorem State.emitFor_freeCount (s : State) (n : Index) (k : EventKind) (o : BitVec 4) (a b : Word) (c : BitVec 16) : (s.emitFor n k o a b c).freeCount = s.freeCount := rfl
@[simp] theorem State.emitFor_journal (s : State) (n : Index) (k : EventKind) (o : BitVec 4) (a b : Word) (c : BitVec 16) : (s.emitFor n k o a b c).journal = s.journal := rfl
@[simp] theorem State.emitFor_proc (s : State) (n : Index) (k : EventKind) (o : BitVec 4) (a b : Word) (c : BitVec 16) : (s.emitFor n k o a b c).proc = s.proc := rfl
@[simp] theorem State.emitFor_port (s : State) (n : Index) (k : EventKind) (o : BitVec 4) (a b : Word) (c : BitVec 16) : (s.emitFor n k o a b c).port = s.port := rfl
@[simp] theorem State.emitFor_timebase (s : State) (n : Index) (k : EventKind) (o : BitVec 4) (a b : Word) (c : BitVec 16) : (s.emitFor n k o a b c).timebase = s.timebase := rfl
@[simp] theorem State.emitFor_scrubber (s : State) (n : Index) (k : EventKind) (o : BitVec 4) (a b : Word) (c : BitVec 16) : (s.emitFor n k o a b c).scrubber = s.scrubber := rfl
@[simp] theorem State.emitFor_mem (s : State) (n : Index) (k : EventKind) (o : BitVec 4) (a b : Word) (c : BitVec 16) : (s.emitFor n k o a b c).mem = s.mem := rfl
@[simp] theorem State.emitFor_freeCounter (s : State) (n : Index) (k : EventKind) (o : BitVec 4) (a b : Word) (c : BitVec 16) : (s.emitFor n k o a b c).freeCounter = s.freeCounter := rfl
@[simp] theorem State.emitFor_pending (s : State) (n : Index) (k : EventKind) (o : BitVec 4) (a b : Word) (c : BitVec 16) : (s.emitFor n k o a b c).pending = s.pending := rfl

@[simp] theorem State.writeWord_entries (s : State) (a : Addr) (w : Word) : (s.writeWord a w).entries = s.entries := rfl
@[simp] theorem State.writeWord_slots (s : State) (a : Addr) (w : Word) : (s.writeWord a w).slots = s.slots := rfl
@[simp] theorem State.writeWord_freeCount (s : State) (a : Addr) (w : Word) : (s.writeWord a w).freeCount = s.freeCount := rfl
@[simp] theorem State.writeWord_queue (s : State) (a : Addr) (w : Word) : (s.writeWord a w).queue = s.queue := rfl
@[simp] theorem State.writeWord_journal (s : State) (a : Addr) (w : Word) : (s.writeWord a w).journal = s.journal := rfl
@[simp] theorem State.writeWord_proc (s : State) (a : Addr) (w : Word) : (s.writeWord a w).proc = s.proc := rfl
@[simp] theorem State.writeWord_port (s : State) (a : Addr) (w : Word) : (s.writeWord a w).port = s.port := rfl
@[simp] theorem State.writeWord_timebase (s : State) (a : Addr) (w : Word) : (s.writeWord a w).timebase = s.timebase := rfl
@[simp] theorem State.writeWord_scrubber (s : State) (a : Addr) (w : Word) : (s.writeWord a w).scrubber = s.scrubber := rfl
@[simp] theorem State.writeWord_freeCounter (s : State) (a : Addr) (w : Word) : (s.writeWord a w).freeCounter = s.freeCounter := rfl
@[simp] theorem State.writeWord_pending (s : State) (a : Addr) (w : Word) : (s.writeWord a w).pending = s.pending := rfl

@[simp] theorem State.setProc_entries (s : State) (p : Processor) : (s.setProc p).entries = s.entries := rfl
@[simp] theorem State.setProc_slots (s : State) (p : Processor) : (s.setProc p).slots = s.slots := rfl
@[simp] theorem State.setProc_freeCount (s : State) (p : Processor) : (s.setProc p).freeCount = s.freeCount := rfl
@[simp] theorem State.setProc_queue (s : State) (p : Processor) : (s.setProc p).queue = s.queue := rfl
@[simp] theorem State.setProc_journal (s : State) (p : Processor) : (s.setProc p).journal = s.journal := rfl
@[simp] theorem State.setProc_port (s : State) (p : Processor) : (s.setProc p).port = s.port := rfl
@[simp] theorem State.setProc_timebase (s : State) (p : Processor) : (s.setProc p).timebase = s.timebase := rfl
@[simp] theorem State.setProc_scrubber (s : State) (p : Processor) : (s.setProc p).scrubber = s.scrubber := rfl
@[simp] theorem State.setProc_mem (s : State) (p : Processor) : (s.setProc p).mem = s.mem := rfl
@[simp] theorem State.setProc_freeCounter (s : State) (p : Processor) : (s.setProc p).freeCounter = s.freeCounter := rfl
@[simp] theorem State.setProc_pending (s : State) (p : Processor) : (s.setProc p).pending = s.pending := rfl

@[simp] theorem State.publish_entries (s : State) (r : ResultCode) : (s.publish r).entries = s.entries := rfl
@[simp] theorem State.publish_slots (s : State) (r : ResultCode) : (s.publish r).slots = s.slots := rfl
@[simp] theorem State.publish_freeCount (s : State) (r : ResultCode) : (s.publish r).freeCount = s.freeCount := rfl
@[simp] theorem State.publish_queue (s : State) (r : ResultCode) : (s.publish r).queue = s.queue := rfl
@[simp] theorem State.publish_journal (s : State) (r : ResultCode) : (s.publish r).journal = s.journal := rfl
@[simp] theorem State.publish_port (s : State) (r : ResultCode) : (s.publish r).port = s.port := rfl
@[simp] theorem State.publish_timebase (s : State) (r : ResultCode) : (s.publish r).timebase = s.timebase := rfl
@[simp] theorem State.publish_scrubber (s : State) (r : ResultCode) : (s.publish r).scrubber = s.scrubber := rfl
@[simp] theorem State.publish_mem (s : State) (r : ResultCode) : (s.publish r).mem = s.mem := rfl
@[simp] theorem State.publish_freeCounter (s : State) (r : ResultCode) : (s.publish r).freeCounter = s.freeCounter := rfl
@[simp] theorem State.publish_pending (s : State) (r : ResultCode) : (s.publish r).pending = s.pending := rfl

@[simp] theorem State.setJournal_entries (s : State) (j : Journal) : (s.setJournal j).entries = s.entries := rfl
@[simp] theorem State.setJournal_slots (s : State) (j : Journal) : (s.setJournal j).slots = s.slots := rfl
@[simp] theorem State.setJournal_freeCount (s : State) (j : Journal) : (s.setJournal j).freeCount = s.freeCount := rfl
@[simp] theorem State.setJournal_queue (s : State) (j : Journal) : (s.setJournal j).queue = s.queue := rfl
@[simp] theorem State.setJournal_proc (s : State) (j : Journal) : (s.setJournal j).proc = s.proc := rfl
@[simp] theorem State.setJournal_port (s : State) (j : Journal) : (s.setJournal j).port = s.port := rfl
@[simp] theorem State.setJournal_timebase (s : State) (j : Journal) : (s.setJournal j).timebase = s.timebase := rfl
@[simp] theorem State.setJournal_scrubber (s : State) (j : Journal) : (s.setJournal j).scrubber = s.scrubber := rfl
@[simp] theorem State.setJournal_mem (s : State) (j : Journal) : (s.setJournal j).mem = s.mem := rfl
@[simp] theorem State.setJournal_freeCounter (s : State) (j : Journal) : (s.setJournal j).freeCounter = s.freeCounter := rfl
@[simp] theorem State.setJournal_pending (s : State) (j : Journal) : (s.setJournal j).pending = s.pending := rfl

@[simp] theorem State.setConsumeImage_entries (s : State) (v : Word) : (s.setConsumeImage v).entries = s.entries := rfl
@[simp] theorem State.setConsumeImage_slots (s : State) (v : Word) : (s.setConsumeImage v).slots = s.slots := rfl
@[simp] theorem State.setConsumeImage_freeCount (s : State) (v : Word) : (s.setConsumeImage v).freeCount = s.freeCount := rfl
@[simp] theorem State.setConsumeImage_queue (s : State) (v : Word) : (s.setConsumeImage v).queue = s.queue := rfl
@[simp] theorem State.setConsumeImage_proc (s : State) (v : Word) : (s.setConsumeImage v).proc = s.proc := rfl
@[simp] theorem State.setConsumeImage_port (s : State) (v : Word) : (s.setConsumeImage v).port = s.port := rfl
@[simp] theorem State.setConsumeImage_timebase (s : State) (v : Word) : (s.setConsumeImage v).timebase = s.timebase := rfl
@[simp] theorem State.setConsumeImage_scrubber (s : State) (v : Word) : (s.setConsumeImage v).scrubber = s.scrubber := rfl
@[simp] theorem State.setConsumeImage_mem (s : State) (v : Word) : (s.setConsumeImage v).mem = s.mem := rfl
@[simp] theorem State.setConsumeImage_freeCounter (s : State) (v : Word) : (s.setConsumeImage v).freeCounter = s.freeCounter := rfl
@[simp] theorem State.setConsumeImage_pending (s : State) (v : Word) : (s.setConsumeImage v).pending = s.pending := rfl

@[simp] theorem State.grantInternal_entries (s : State) (c : Claimant) : (s.grantInternal c).entries = s.entries := rfl
@[simp] theorem State.grantInternal_slots (s : State) (c : Claimant) : (s.grantInternal c).slots = s.slots := rfl
@[simp] theorem State.grantInternal_freeCount (s : State) (c : Claimant) : (s.grantInternal c).freeCount = s.freeCount := rfl
@[simp] theorem State.grantInternal_queue (s : State) (c : Claimant) : (s.grantInternal c).queue = s.queue := rfl
@[simp] theorem State.grantInternal_journal (s : State) (c : Claimant) : (s.grantInternal c).journal = s.journal := rfl
@[simp] theorem State.grantInternal_proc (s : State) (c : Claimant) : (s.grantInternal c).proc = s.proc := rfl
@[simp] theorem State.grantInternal_timebase (s : State) (c : Claimant) : (s.grantInternal c).timebase = s.timebase := rfl
@[simp] theorem State.grantInternal_scrubber (s : State) (c : Claimant) : (s.grantInternal c).scrubber = s.scrubber := rfl
@[simp] theorem State.grantInternal_mem (s : State) (c : Claimant) : (s.grantInternal c).mem = s.mem := rfl
@[simp] theorem State.grantInternal_freeCounter (s : State) (c : Claimant) : (s.grantInternal c).freeCounter = s.freeCounter := rfl
@[simp] theorem State.grantInternal_pending (s : State) (c : Claimant) : (s.grantInternal c).pending = s.pending := rfl

@[simp] theorem State.freePort_entries (s : State) : (s.freePort).entries = s.entries := rfl
@[simp] theorem State.freePort_slots (s : State) : (s.freePort).slots = s.slots := rfl
@[simp] theorem State.freePort_freeCount (s : State) : (s.freePort).freeCount = s.freeCount := rfl
@[simp] theorem State.freePort_queue (s : State) : (s.freePort).queue = s.queue := rfl
@[simp] theorem State.freePort_journal (s : State) : (s.freePort).journal = s.journal := rfl
@[simp] theorem State.freePort_proc (s : State) : (s.freePort).proc = s.proc := rfl
@[simp] theorem State.freePort_timebase (s : State) : (s.freePort).timebase = s.timebase := rfl
@[simp] theorem State.freePort_scrubber (s : State) : (s.freePort).scrubber = s.scrubber := rfl
@[simp] theorem State.freePort_mem (s : State) : (s.freePort).mem = s.mem := rfl
@[simp] theorem State.freePort_freeCounter (s : State) : (s.freePort).freeCounter = s.freeCounter := rfl
@[simp] theorem State.freePort_pending (s : State) : (s.freePort).pending = s.pending := rfl

@[simp] theorem State.acceptTimebase_entries (s : State) (d i : BitVec 16) : (s.acceptTimebase d i).entries = s.entries := rfl
@[simp] theorem State.acceptTimebase_slots (s : State) (d i : BitVec 16) : (s.acceptTimebase d i).slots = s.slots := rfl
@[simp] theorem State.acceptTimebase_freeCount (s : State) (d i : BitVec 16) : (s.acceptTimebase d i).freeCount = s.freeCount := rfl
@[simp] theorem State.acceptTimebase_queue (s : State) (d i : BitVec 16) : (s.acceptTimebase d i).queue = s.queue := rfl
@[simp] theorem State.acceptTimebase_journal (s : State) (d i : BitVec 16) : (s.acceptTimebase d i).journal = s.journal := rfl
@[simp] theorem State.acceptTimebase_proc (s : State) (d i : BitVec 16) : (s.acceptTimebase d i).proc = s.proc := rfl
@[simp] theorem State.acceptTimebase_port (s : State) (d i : BitVec 16) : (s.acceptTimebase d i).port = s.port := rfl
@[simp] theorem State.acceptTimebase_mem (s : State) (d i : BitVec 16) : (s.acceptTimebase d i).mem = s.mem := rfl
@[simp] theorem State.acceptTimebase_freeCounter (s : State) (d i : BitVec 16) : (s.acceptTimebase d i).freeCounter = s.freeCounter := rfl
@[simp] theorem State.acceptTimebase_pending (s : State) (d i : BitVec 16) : (s.acceptTimebase d i).pending = s.pending := rfl

@[simp] theorem State.reportMerge_slots (s : State) (n : Index) : (s.reportMerge n).slots = s.slots := rfl
@[simp] theorem State.reportMerge_freeCount (s : State) (n : Index) : (s.reportMerge n).freeCount = s.freeCount := rfl
@[simp] theorem State.reportMerge_journal (s : State) (n : Index) : (s.reportMerge n).journal = s.journal := rfl
@[simp] theorem State.reportMerge_proc (s : State) (n : Index) : (s.reportMerge n).proc = s.proc := rfl
@[simp] theorem State.reportMerge_port (s : State) (n : Index) : (s.reportMerge n).port = s.port := rfl
@[simp] theorem State.reportMerge_timebase (s : State) (n : Index) : (s.reportMerge n).timebase = s.timebase := rfl
@[simp] theorem State.reportMerge_scrubber (s : State) (n : Index) : (s.reportMerge n).scrubber = s.scrubber := rfl
@[simp] theorem State.reportMerge_mem (s : State) (n : Index) : (s.reportMerge n).mem = s.mem := rfl
@[simp] theorem State.reportMerge_freeCounter (s : State) (n : Index) : (s.reportMerge n).freeCounter = s.freeCounter := rfl
@[simp] theorem State.reportMerge_pending (s : State) (n : Index) : (s.reportMerge n).pending = s.pending := rfl

@[simp] theorem State.refuse_entries (s : State) (w : Word) (r : ResultCode) : (s.refuse w r).entries = s.entries := rfl
@[simp] theorem State.refuse_slots (s : State) (w : Word) (r : ResultCode) : (s.refuse w r).slots = s.slots := rfl
@[simp] theorem State.refuse_freeCount (s : State) (w : Word) (r : ResultCode) : (s.refuse w r).freeCount = s.freeCount := rfl
@[simp] theorem State.refuse_queue (s : State) (w : Word) (r : ResultCode) : (s.refuse w r).queue = s.queue := rfl
@[simp] theorem State.refuse_journal (s : State) (w : Word) (r : ResultCode) : (s.refuse w r).journal = s.journal := rfl
@[simp] theorem State.refuse_port (s : State) (w : Word) (r : ResultCode) : (s.refuse w r).port = s.port := rfl
@[simp] theorem State.refuse_timebase (s : State) (w : Word) (r : ResultCode) : (s.refuse w r).timebase = s.timebase := rfl
@[simp] theorem State.refuse_scrubber (s : State) (w : Word) (r : ResultCode) : (s.refuse w r).scrubber = s.scrubber := rfl
@[simp] theorem State.refuse_mem (s : State) (w : Word) (r : ResultCode) : (s.refuse w r).mem = s.mem := rfl
@[simp] theorem State.refuse_freeCounter (s : State) (w : Word) (r : ResultCode) : (s.refuse w r).freeCounter = s.freeCounter := rfl
@[simp] theorem State.refuse_pending (s : State) (w : Word) (r : ResultCode) : (s.refuse w r).pending = s.pending := rfl

@[simp] theorem State.beginReading_entries (s : State) (c : CommandSlot) : (s.beginReading c).entries = s.entries := rfl
@[simp] theorem State.beginReading_slots (s : State) (c : CommandSlot) : (s.beginReading c).slots = s.slots := rfl
@[simp] theorem State.beginReading_freeCount (s : State) (c : CommandSlot) : (s.beginReading c).freeCount = s.freeCount := rfl
@[simp] theorem State.beginReading_queue (s : State) (c : CommandSlot) : (s.beginReading c).queue = s.queue := rfl
@[simp] theorem State.beginReading_journal (s : State) (c : CommandSlot) : (s.beginReading c).journal = s.journal := rfl
@[simp] theorem State.beginReading_port (s : State) (c : CommandSlot) : (s.beginReading c).port = s.port := rfl
@[simp] theorem State.beginReading_timebase (s : State) (c : CommandSlot) : (s.beginReading c).timebase = s.timebase := rfl
@[simp] theorem State.beginReading_scrubber (s : State) (c : CommandSlot) : (s.beginReading c).scrubber = s.scrubber := rfl
@[simp] theorem State.beginReading_mem (s : State) (c : CommandSlot) : (s.beginReading c).mem = s.mem := rfl
@[simp] theorem State.beginReading_freeCounter (s : State) (c : CommandSlot) : (s.beginReading c).freeCounter = s.freeCounter := rfl
@[simp] theorem State.beginReading_pending (s : State) (c : CommandSlot) : (s.beginReading c).pending = s.pending := rfl

@[simp] theorem State.beginPublishing_entries (s : State) (c : CommandSlot) (r : ResultCode) (l : List (Nat × Word)) : (s.beginPublishing c r l).entries = s.entries := rfl
@[simp] theorem State.beginPublishing_slots (s : State) (c : CommandSlot) (r : ResultCode) (l : List (Nat × Word)) : (s.beginPublishing c r l).slots = s.slots := rfl
@[simp] theorem State.beginPublishing_freeCount (s : State) (c : CommandSlot) (r : ResultCode) (l : List (Nat × Word)) : (s.beginPublishing c r l).freeCount = s.freeCount := rfl
@[simp] theorem State.beginPublishing_queue (s : State) (c : CommandSlot) (r : ResultCode) (l : List (Nat × Word)) : (s.beginPublishing c r l).queue = s.queue := rfl
@[simp] theorem State.beginPublishing_journal (s : State) (c : CommandSlot) (r : ResultCode) (l : List (Nat × Word)) : (s.beginPublishing c r l).journal = s.journal := rfl
@[simp] theorem State.beginPublishing_port (s : State) (c : CommandSlot) (r : ResultCode) (l : List (Nat × Word)) : (s.beginPublishing c r l).port = s.port := rfl
@[simp] theorem State.beginPublishing_timebase (s : State) (c : CommandSlot) (r : ResultCode) (l : List (Nat × Word)) : (s.beginPublishing c r l).timebase = s.timebase := rfl
@[simp] theorem State.beginPublishing_scrubber (s : State) (c : CommandSlot) (r : ResultCode) (l : List (Nat × Word)) : (s.beginPublishing c r l).scrubber = s.scrubber := rfl
@[simp] theorem State.beginPublishing_mem (s : State) (c : CommandSlot) (r : ResultCode) (l : List (Nat × Word)) : (s.beginPublishing c r l).mem = s.mem := rfl
@[simp] theorem State.beginPublishing_freeCounter (s : State) (c : CommandSlot) (r : ResultCode) (l : List (Nat × Word)) : (s.beginPublishing c r l).freeCounter = s.freeCounter := rfl
@[simp] theorem State.beginPublishing_pending (s : State) (c : CommandSlot) (r : ResultCode) (l : List (Nat × Word)) : (s.beginPublishing c r l).pending = s.pending := rfl

@[simp] theorem State.writeRecordWord_entries (s : State) (r : RecordInFlight) : (s.writeRecordWord r).entries = s.entries := rfl
@[simp] theorem State.writeRecordWord_slots (s : State) (r : RecordInFlight) : (s.writeRecordWord r).slots = s.slots := rfl
@[simp] theorem State.writeRecordWord_freeCount (s : State) (r : RecordInFlight) : (s.writeRecordWord r).freeCount = s.freeCount := rfl
@[simp] theorem State.writeRecordWord_queue (s : State) (r : RecordInFlight) : (s.writeRecordWord r).queue = s.queue := rfl
@[simp] theorem State.writeRecordWord_proc (s : State) (r : RecordInFlight) : (s.writeRecordWord r).proc = s.proc := rfl
@[simp] theorem State.writeRecordWord_port (s : State) (r : RecordInFlight) : (s.writeRecordWord r).port = s.port := rfl
@[simp] theorem State.writeRecordWord_timebase (s : State) (r : RecordInFlight) : (s.writeRecordWord r).timebase = s.timebase := rfl
@[simp] theorem State.writeRecordWord_scrubber (s : State) (r : RecordInFlight) : (s.writeRecordWord r).scrubber = s.scrubber := rfl
@[simp] theorem State.writeRecordWord_freeCounter (s : State) (r : RecordInFlight) : (s.writeRecordWord r).freeCounter = s.freeCounter := rfl
@[simp] theorem State.writeRecordWord_pending (s : State) (r : RecordInFlight) : (s.writeRecordWord r).pending = s.pending := rfl

@[simp] theorem State.publishRecord_entries (s : State) (r : RecordInFlight) : (s.publishRecord r).entries = s.entries := rfl
@[simp] theorem State.publishRecord_slots (s : State) (r : RecordInFlight) : (s.publishRecord r).slots = s.slots := rfl
@[simp] theorem State.publishRecord_freeCount (s : State) (r : RecordInFlight) : (s.publishRecord r).freeCount = s.freeCount := rfl
@[simp] theorem State.publishRecord_proc (s : State) (r : RecordInFlight) : (s.publishRecord r).proc = s.proc := rfl
@[simp] theorem State.publishRecord_port (s : State) (r : RecordInFlight) : (s.publishRecord r).port = s.port := rfl
@[simp] theorem State.publishRecord_timebase (s : State) (r : RecordInFlight) : (s.publishRecord r).timebase = s.timebase := rfl
@[simp] theorem State.publishRecord_scrubber (s : State) (r : RecordInFlight) : (s.publishRecord r).scrubber = s.scrubber := rfl
@[simp] theorem State.publishRecord_freeCounter (s : State) (r : RecordInFlight) : (s.publishRecord r).freeCounter = s.freeCounter := rfl
@[simp] theorem State.publishRecord_pending (s : State) (r : RecordInFlight) : (s.publishRecord r).pending = s.pending := rfl

@[simp] theorem State.completionTaken_entries (s : State) : (s.completionTaken).entries = s.entries := rfl
@[simp] theorem State.completionTaken_slots (s : State) : (s.completionTaken).slots = s.slots := rfl
@[simp] theorem State.completionTaken_freeCount (s : State) : (s.completionTaken).freeCount = s.freeCount := rfl
@[simp] theorem State.completionTaken_queue (s : State) : (s.completionTaken).queue = s.queue := rfl
@[simp] theorem State.completionTaken_journal (s : State) : (s.completionTaken).journal = s.journal := rfl
@[simp] theorem State.completionTaken_port (s : State) : (s.completionTaken).port = s.port := rfl
@[simp] theorem State.completionTaken_timebase (s : State) : (s.completionTaken).timebase = s.timebase := rfl
@[simp] theorem State.completionTaken_scrubber (s : State) : (s.completionTaken).scrubber = s.scrubber := rfl
@[simp] theorem State.completionTaken_freeCounter (s : State) : (s.completionTaken).freeCounter = s.freeCounter := rfl
@[simp] theorem State.completionTaken_pending (s : State) : (s.completionTaken).pending = s.pending := rfl

@[simp] theorem State.refusalTaken_entries (s : State) : (s.refusalTaken).entries = s.entries := rfl
@[simp] theorem State.refusalTaken_slots (s : State) : (s.refusalTaken).slots = s.slots := rfl
@[simp] theorem State.refusalTaken_freeCount (s : State) : (s.refusalTaken).freeCount = s.freeCount := rfl
@[simp] theorem State.refusalTaken_queue (s : State) : (s.refusalTaken).queue = s.queue := rfl
@[simp] theorem State.refusalTaken_journal (s : State) : (s.refusalTaken).journal = s.journal := rfl
@[simp] theorem State.refusalTaken_port (s : State) : (s.refusalTaken).port = s.port := rfl
@[simp] theorem State.refusalTaken_timebase (s : State) : (s.refusalTaken).timebase = s.timebase := rfl
@[simp] theorem State.refusalTaken_scrubber (s : State) : (s.refusalTaken).scrubber = s.scrubber := rfl
@[simp] theorem State.refusalTaken_freeCounter (s : State) : (s.refusalTaken).freeCounter = s.freeCounter := rfl
@[simp] theorem State.refusalTaken_pending (s : State) : (s.refusalTaken).pending = s.pending := rfl

@[simp] theorem State.snapshotWordTaken_entries (s : State) (w : Nat × Word) (l : List (Nat × Word)) : (s.snapshotWordTaken w l).entries = s.entries := rfl
@[simp] theorem State.snapshotWordTaken_slots (s : State) (w : Nat × Word) (l : List (Nat × Word)) : (s.snapshotWordTaken w l).slots = s.slots := rfl
@[simp] theorem State.snapshotWordTaken_freeCount (s : State) (w : Nat × Word) (l : List (Nat × Word)) : (s.snapshotWordTaken w l).freeCount = s.freeCount := rfl
@[simp] theorem State.snapshotWordTaken_queue (s : State) (w : Nat × Word) (l : List (Nat × Word)) : (s.snapshotWordTaken w l).queue = s.queue := rfl
@[simp] theorem State.snapshotWordTaken_journal (s : State) (w : Nat × Word) (l : List (Nat × Word)) : (s.snapshotWordTaken w l).journal = s.journal := rfl
@[simp] theorem State.snapshotWordTaken_port (s : State) (w : Nat × Word) (l : List (Nat × Word)) : (s.snapshotWordTaken w l).port = s.port := rfl
@[simp] theorem State.snapshotWordTaken_timebase (s : State) (w : Nat × Word) (l : List (Nat × Word)) : (s.snapshotWordTaken w l).timebase = s.timebase := rfl
@[simp] theorem State.snapshotWordTaken_scrubber (s : State) (w : Nat × Word) (l : List (Nat × Word)) : (s.snapshotWordTaken w l).scrubber = s.scrubber := rfl
@[simp] theorem State.snapshotWordTaken_freeCounter (s : State) (w : Nat × Word) (l : List (Nat × Word)) : (s.snapshotWordTaken w l).freeCounter = s.freeCounter := rfl
@[simp] theorem State.snapshotWordTaken_pending (s : State) (w : Nat × Word) (l : List (Nat × Word)) : (s.snapshotWordTaken w l).pending = s.pending := rfl

@[simp] theorem State.startupWriteTaken_entries (s : State) (w : StartupWrite) (l : List StartupWrite) : (s.startupWriteTaken w l).entries = s.entries := rfl
@[simp] theorem State.startupWriteTaken_slots (s : State) (w : StartupWrite) (l : List StartupWrite) : (s.startupWriteTaken w l).slots = s.slots := rfl
@[simp] theorem State.startupWriteTaken_freeCount (s : State) (w : StartupWrite) (l : List StartupWrite) : (s.startupWriteTaken w l).freeCount = s.freeCount := rfl
@[simp] theorem State.startupWriteTaken_queue (s : State) (w : StartupWrite) (l : List StartupWrite) : (s.startupWriteTaken w l).queue = s.queue := rfl
@[simp] theorem State.startupWriteTaken_journal (s : State) (w : StartupWrite) (l : List StartupWrite) : (s.startupWriteTaken w l).journal = s.journal := rfl
@[simp] theorem State.startupWriteTaken_port (s : State) (w : StartupWrite) (l : List StartupWrite) : (s.startupWriteTaken w l).port = s.port := rfl
@[simp] theorem State.startupWriteTaken_timebase (s : State) (w : StartupWrite) (l : List StartupWrite) : (s.startupWriteTaken w l).timebase = s.timebase := rfl
@[simp] theorem State.startupWriteTaken_scrubber (s : State) (w : StartupWrite) (l : List StartupWrite) : (s.startupWriteTaken w l).scrubber = s.scrubber := rfl
@[simp] theorem State.startupWriteTaken_freeCounter (s : State) (w : StartupWrite) (l : List StartupWrite) : (s.startupWriteTaken w l).freeCounter = s.freeCounter := rfl
@[simp] theorem State.startupWriteTaken_pending (s : State) (w : StartupWrite) (l : List StartupWrite) : (s.startupWriteTaken w l).pending = s.pending := rfl

@[simp] theorem State.resetBlocks_proc (s : State) : (s.resetBlocks).proc = s.proc := rfl
@[simp] theorem State.resetBlocks_timebase (s : State) : (s.resetBlocks).timebase = s.timebase := rfl
@[simp] theorem State.resetBlocks_mem (s : State) : (s.resetBlocks).mem = s.mem := rfl
@[simp] theorem State.resetBlocks_freeCounter (s : State) : (s.resetBlocks).freeCounter = s.freeCounter := rfl
@[simp] theorem State.resetBlocks_pending (s : State) : (s.resetBlocks).pending = s.pending := rfl

@[simp] theorem State.restart_mem (s : State) (g : CommandTag) : (s.restart g).mem = s.mem := rfl
@[simp] theorem State.restart_freeCounter (s : State) (g : CommandTag) : (s.restart g).freeCounter = s.freeCounter := rfl
@[simp] theorem State.restart_pending (s : State) (g : CommandTag) : (s.restart g).pending = s.pending := rfl

end Sys2Proof.Machine
end

