-- ==== Sys2Proof/Laws/Frames.lean ====
section
/-! SUPPORT. The fields that the composed operations leave alone. -/

namespace Sys2Proof.Machine

theorem forEach_slots (act : Index → State → State) (h : ∀ n t, (act n t).slots = t.slots) (ns : List Index) (s : State) :
    (s.forEach ns act).slots = s.slots := by
  induction ns generalizing s with
  | nil => rfl
  | cons n rest ih => exact (ih (act n s)).trans (h n s)
theorem forEach_freeCount (act : Index → State → State) (h : ∀ n t, (act n t).freeCount = t.freeCount) (ns : List Index) (s : State) :
    (s.forEach ns act).freeCount = s.freeCount := by
  induction ns generalizing s with
  | nil => rfl
  | cons n rest ih => exact (ih (act n s)).trans (h n s)
theorem forEach_journal (act : Index → State → State) (h : ∀ n t, (act n t).journal = t.journal) (ns : List Index) (s : State) :
    (s.forEach ns act).journal = s.journal := by
  induction ns generalizing s with
  | nil => rfl
  | cons n rest ih => exact (ih (act n s)).trans (h n s)
theorem forEach_proc (act : Index → State → State) (h : ∀ n t, (act n t).proc = t.proc) (ns : List Index) (s : State) :
    (s.forEach ns act).proc = s.proc := by
  induction ns generalizing s with
  | nil => rfl
  | cons n rest ih => exact (ih (act n s)).trans (h n s)
theorem forEach_port (act : Index → State → State) (h : ∀ n t, (act n t).port = t.port) (ns : List Index) (s : State) :
    (s.forEach ns act).port = s.port := by
  induction ns generalizing s with
  | nil => rfl
  | cons n rest ih => exact (ih (act n s)).trans (h n s)
theorem forEach_timebase (act : Index → State → State) (h : ∀ n t, (act n t).timebase = t.timebase) (ns : List Index) (s : State) :
    (s.forEach ns act).timebase = s.timebase := by
  induction ns generalizing s with
  | nil => rfl
  | cons n rest ih => exact (ih (act n s)).trans (h n s)
theorem forEach_scrubber (act : Index → State → State) (h : ∀ n t, (act n t).scrubber = t.scrubber) (ns : List Index) (s : State) :
    (s.forEach ns act).scrubber = s.scrubber := by
  induction ns generalizing s with
  | nil => rfl
  | cons n rest ih => exact (ih (act n s)).trans (h n s)
theorem forEach_mem (act : Index → State → State) (h : ∀ n t, (act n t).mem = t.mem) (ns : List Index) (s : State) :
    (s.forEach ns act).mem = s.mem := by
  induction ns generalizing s with
  | nil => rfl
  | cons n rest ih => exact (ih (act n s)).trans (h n s)
theorem forEach_freeCounter (act : Index → State → State) (h : ∀ n t, (act n t).freeCounter = t.freeCounter) (ns : List Index) (s : State) :
    (s.forEach ns act).freeCounter = s.freeCounter := by
  induction ns generalizing s with
  | nil => rfl
  | cons n rest ih => exact (ih (act n s)).trans (h n s)
theorem forEach_pending (act : Index → State → State) (h : ∀ n t, (act n t).pending = t.pending) (ns : List Index) (s : State) :
    (s.forEach ns act).pending = s.pending := by
  induction ns generalizing s with
  | nil => rfl
  | cons n rest ih => exact (ih (act n s)).trans (h n s)

@[simp] theorem State.grantHost_entries (s : State) (a : HostAccess) : (s.grantHost a).entries = s.entries := by cases a <;> rfl
@[simp] theorem State.grantHost_slots (s : State) (a : HostAccess) : (s.grantHost a).slots = s.slots := by cases a <;> rfl
@[simp] theorem State.grantHost_freeCount (s : State) (a : HostAccess) : (s.grantHost a).freeCount = s.freeCount := by cases a <;> rfl
@[simp] theorem State.grantHost_queue (s : State) (a : HostAccess) : (s.grantHost a).queue = s.queue := by cases a <;> rfl
@[simp] theorem State.grantHost_journal (s : State) (a : HostAccess) : (s.grantHost a).journal = s.journal := by cases a <;> rfl
@[simp] theorem State.grantHost_proc (s : State) (a : HostAccess) : (s.grantHost a).proc = s.proc := by cases a <;> rfl
@[simp] theorem State.grantHost_timebase (s : State) (a : HostAccess) : (s.grantHost a).timebase = s.timebase := by cases a <;> rfl
@[simp] theorem State.grantHost_scrubber (s : State) (a : HostAccess) : (s.grantHost a).scrubber = s.scrubber := by cases a <;> rfl
@[simp] theorem State.grantHost_mem (s : State) (a : HostAccess) : (s.grantHost a).mem = s.mem := by cases a <;> rfl
@[simp] theorem State.grantHost_freeCounter (s : State) (a : HostAccess) : (s.grantHost a).freeCounter = s.freeCounter := by cases a <;> rfl
@[simp] theorem State.grantHost_pending (s : State) (a : HostAccess) : (s.grantHost a).pending = s.pending := by cases a <;> rfl

@[simp] theorem State.grant_entries (s : State) : (s.grant).entries = s.entries := by
  simp only [State.grant]; (repeat' split) <;> simp
@[simp] theorem State.grant_slots (s : State) : (s.grant).slots = s.slots := by
  simp only [State.grant]; (repeat' split) <;> simp
@[simp] theorem State.grant_freeCount (s : State) : (s.grant).freeCount = s.freeCount := by
  simp only [State.grant]; (repeat' split) <;> simp
@[simp] theorem State.grant_queue (s : State) : (s.grant).queue = s.queue := by
  simp only [State.grant]; (repeat' split) <;> simp
@[simp] theorem State.grant_journal (s : State) : (s.grant).journal = s.journal := by
  simp only [State.grant]; (repeat' split) <;> simp
@[simp] theorem State.grant_proc (s : State) : (s.grant).proc = s.proc := by
  simp only [State.grant]; (repeat' split) <;> simp
@[simp] theorem State.grant_timebase (s : State) : (s.grant).timebase = s.timebase := by
  simp only [State.grant]; (repeat' split) <;> simp
@[simp] theorem State.grant_scrubber (s : State) : (s.grant).scrubber = s.scrubber := by
  simp only [State.grant]; (repeat' split) <;> simp
@[simp] theorem State.grant_mem (s : State) : (s.grant).mem = s.mem := by
  simp only [State.grant]; (repeat' split) <;> simp
@[simp] theorem State.grant_freeCounter (s : State) : (s.grant).freeCounter = s.freeCounter := by
  simp only [State.grant]; (repeat' split) <;> simp
@[simp] theorem State.grant_pending (s : State) : (s.grant).pending = s.pending := by
  simp only [State.grant]; (repeat' split) <;> simp

@[simp] theorem State.flushMerge_slots (s : State) (n : Index) : (s.flushMerge n).slots = s.slots := by
  simp only [State.flushMerge]; (repeat' split) <;> simp
@[simp] theorem State.flushMerge_freeCount (s : State) (n : Index) : (s.flushMerge n).freeCount = s.freeCount := by
  simp only [State.flushMerge]; (repeat' split) <;> simp
@[simp] theorem State.flushMerge_journal (s : State) (n : Index) : (s.flushMerge n).journal = s.journal := by
  simp only [State.flushMerge]; (repeat' split) <;> simp
@[simp] theorem State.flushMerge_proc (s : State) (n : Index) : (s.flushMerge n).proc = s.proc := by
  simp only [State.flushMerge]; (repeat' split) <;> simp
@[simp] theorem State.flushMerge_port (s : State) (n : Index) : (s.flushMerge n).port = s.port := by
  simp only [State.flushMerge]; (repeat' split) <;> simp
@[simp] theorem State.flushMerge_timebase (s : State) (n : Index) : (s.flushMerge n).timebase = s.timebase := by
  simp only [State.flushMerge]; (repeat' split) <;> simp
@[simp] theorem State.flushMerge_scrubber (s : State) (n : Index) : (s.flushMerge n).scrubber = s.scrubber := by
  simp only [State.flushMerge]; (repeat' split) <;> simp
@[simp] theorem State.flushMerge_mem (s : State) (n : Index) : (s.flushMerge n).mem = s.mem := by
  simp only [State.flushMerge]; (repeat' split) <;> simp
@[simp] theorem State.flushMerge_freeCounter (s : State) (n : Index) : (s.flushMerge n).freeCounter = s.freeCounter := by
  simp only [State.flushMerge]; (repeat' split) <;> simp
@[simp] theorem State.flushMerge_pending (s : State) (n : Index) : (s.flushMerge n).pending = s.pending := by
  simp only [State.flushMerge]; (repeat' split) <;> simp

@[simp] theorem State.flushToQuiet_slots (s : State) (n : Index) : (s.flushToQuiet n).slots = s.slots := by
  simp [State.flushToQuiet]
@[simp] theorem State.flushToQuiet_freeCount (s : State) (n : Index) : (s.flushToQuiet n).freeCount = s.freeCount := by
  simp [State.flushToQuiet]
@[simp] theorem State.flushToQuiet_journal (s : State) (n : Index) : (s.flushToQuiet n).journal = s.journal := by
  simp [State.flushToQuiet]
@[simp] theorem State.flushToQuiet_proc (s : State) (n : Index) : (s.flushToQuiet n).proc = s.proc := by
  simp [State.flushToQuiet]
@[simp] theorem State.flushToQuiet_port (s : State) (n : Index) : (s.flushToQuiet n).port = s.port := by
  simp [State.flushToQuiet]
@[simp] theorem State.flushToQuiet_timebase (s : State) (n : Index) : (s.flushToQuiet n).timebase = s.timebase := by
  simp [State.flushToQuiet]
@[simp] theorem State.flushToQuiet_scrubber (s : State) (n : Index) : (s.flushToQuiet n).scrubber = s.scrubber := by
  simp [State.flushToQuiet]
@[simp] theorem State.flushToQuiet_mem (s : State) (n : Index) : (s.flushToQuiet n).mem = s.mem := by
  simp [State.flushToQuiet]
@[simp] theorem State.flushToQuiet_freeCounter (s : State) (n : Index) : (s.flushToQuiet n).freeCounter = s.freeCounter := by
  simp [State.flushToQuiet]
@[simp] theorem State.flushToQuiet_pending (s : State) (n : Index) : (s.flushToQuiet n).pending = s.pending := by
  simp [State.flushToQuiet]

@[simp] theorem State.trigger_slots (s : State) (n : Index) (o : Nat) (a b : Word) : (s.trigger n o a b).slots = s.slots := by
  simp only [State.trigger]; (repeat' split) <;> simp
@[simp] theorem State.trigger_freeCount (s : State) (n : Index) (o : Nat) (a b : Word) : (s.trigger n o a b).freeCount = s.freeCount := by
  simp only [State.trigger]; (repeat' split) <;> simp
@[simp] theorem State.trigger_journal (s : State) (n : Index) (o : Nat) (a b : Word) : (s.trigger n o a b).journal = s.journal := by
  simp only [State.trigger]; (repeat' split) <;> simp
@[simp] theorem State.trigger_proc (s : State) (n : Index) (o : Nat) (a b : Word) : (s.trigger n o a b).proc = s.proc := by
  simp only [State.trigger]; (repeat' split) <;> simp
@[simp] theorem State.trigger_port (s : State) (n : Index) (o : Nat) (a b : Word) : (s.trigger n o a b).port = s.port := by
  simp only [State.trigger]; (repeat' split) <;> simp
@[simp] theorem State.trigger_timebase (s : State) (n : Index) (o : Nat) (a b : Word) : (s.trigger n o a b).timebase = s.timebase := by
  simp only [State.trigger]; (repeat' split) <;> simp
@[simp] theorem State.trigger_scrubber (s : State) (n : Index) (o : Nat) (a b : Word) : (s.trigger n o a b).scrubber = s.scrubber := by
  simp only [State.trigger]; (repeat' split) <;> simp
@[simp] theorem State.trigger_mem (s : State) (n : Index) (o : Nat) (a b : Word) : (s.trigger n o a b).mem = s.mem := by
  simp only [State.trigger]; (repeat' split) <;> simp
@[simp] theorem State.trigger_freeCounter (s : State) (n : Index) (o : Nat) (a b : Word) : (s.trigger n o a b).freeCounter = s.freeCounter := by
  simp only [State.trigger]; (repeat' split) <;> simp
@[simp] theorem State.trigger_pending (s : State) (n : Index) (o : Nat) (a b : Word) : (s.trigger n o a b).pending = s.pending := by
  simp only [State.trigger]; (repeat' split) <;> simp

@[simp] theorem State.expireHoldoff_slots (s : State) (n : Index) : (s.expireHoldoff n).slots = s.slots := by
  simp only [State.expireHoldoff]; (repeat' split) <;> simp
@[simp] theorem State.expireHoldoff_freeCount (s : State) (n : Index) : (s.expireHoldoff n).freeCount = s.freeCount := by
  simp only [State.expireHoldoff]; (repeat' split) <;> simp
@[simp] theorem State.expireHoldoff_journal (s : State) (n : Index) : (s.expireHoldoff n).journal = s.journal := by
  simp only [State.expireHoldoff]; (repeat' split) <;> simp
@[simp] theorem State.expireHoldoff_proc (s : State) (n : Index) : (s.expireHoldoff n).proc = s.proc := by
  simp only [State.expireHoldoff]; (repeat' split) <;> simp
@[simp] theorem State.expireHoldoff_port (s : State) (n : Index) : (s.expireHoldoff n).port = s.port := by
  simp only [State.expireHoldoff]; (repeat' split) <;> simp
@[simp] theorem State.expireHoldoff_timebase (s : State) (n : Index) : (s.expireHoldoff n).timebase = s.timebase := by
  simp only [State.expireHoldoff]; (repeat' split) <;> simp
@[simp] theorem State.expireHoldoff_scrubber (s : State) (n : Index) : (s.expireHoldoff n).scrubber = s.scrubber := by
  simp only [State.expireHoldoff]; (repeat' split) <;> simp
@[simp] theorem State.expireHoldoff_mem (s : State) (n : Index) : (s.expireHoldoff n).mem = s.mem := by
  simp only [State.expireHoldoff]; (repeat' split) <;> simp
@[simp] theorem State.expireHoldoff_freeCounter (s : State) (n : Index) : (s.expireHoldoff n).freeCounter = s.freeCounter := by
  simp only [State.expireHoldoff]; (repeat' split) <;> simp
@[simp] theorem State.expireHoldoff_pending (s : State) (n : Index) : (s.expireHoldoff n).pending = s.pending := by
  simp only [State.expireHoldoff]; (repeat' split) <;> simp

@[simp] theorem State.tickHoldoff_slots (s : State) (n : Index) : (s.tickHoldoff n).slots = s.slots := by
  simp only [State.tickHoldoff]; (repeat' split) <;> simp
@[simp] theorem State.tickHoldoff_freeCount (s : State) (n : Index) : (s.tickHoldoff n).freeCount = s.freeCount := by
  simp only [State.tickHoldoff]; (repeat' split) <;> simp
@[simp] theorem State.tickHoldoff_journal (s : State) (n : Index) : (s.tickHoldoff n).journal = s.journal := by
  simp only [State.tickHoldoff]; (repeat' split) <;> simp
@[simp] theorem State.tickHoldoff_proc (s : State) (n : Index) : (s.tickHoldoff n).proc = s.proc := by
  simp only [State.tickHoldoff]; (repeat' split) <;> simp
@[simp] theorem State.tickHoldoff_port (s : State) (n : Index) : (s.tickHoldoff n).port = s.port := by
  simp only [State.tickHoldoff]; (repeat' split) <;> simp
@[simp] theorem State.tickHoldoff_timebase (s : State) (n : Index) : (s.tickHoldoff n).timebase = s.timebase := by
  simp only [State.tickHoldoff]; (repeat' split) <;> simp
@[simp] theorem State.tickHoldoff_scrubber (s : State) (n : Index) : (s.tickHoldoff n).scrubber = s.scrubber := by
  simp only [State.tickHoldoff]; (repeat' split) <;> simp
@[simp] theorem State.tickHoldoff_mem (s : State) (n : Index) : (s.tickHoldoff n).mem = s.mem := by
  simp only [State.tickHoldoff]; (repeat' split) <;> simp
@[simp] theorem State.tickHoldoff_freeCounter (s : State) (n : Index) : (s.tickHoldoff n).freeCounter = s.freeCounter := by
  simp only [State.tickHoldoff]; (repeat' split) <;> simp
@[simp] theorem State.tickHoldoff_pending (s : State) (n : Index) : (s.tickHoldoff n).pending = s.pending := by
  simp only [State.tickHoldoff]; (repeat' split) <;> simp

@[simp] theorem State.writeAtDeadline_slots (s : State) (n : Index) (o : Nat) (a b : Word) : (s.writeAtDeadline n o a b).slots = s.slots := by
  simp only [State.writeAtDeadline]; (repeat' split) <;> simp
@[simp] theorem State.writeAtDeadline_freeCount (s : State) (n : Index) (o : Nat) (a b : Word) : (s.writeAtDeadline n o a b).freeCount = s.freeCount := by
  simp only [State.writeAtDeadline]; (repeat' split) <;> simp
@[simp] theorem State.writeAtDeadline_journal (s : State) (n : Index) (o : Nat) (a b : Word) : (s.writeAtDeadline n o a b).journal = s.journal := by
  simp only [State.writeAtDeadline]; (repeat' split) <;> simp
@[simp] theorem State.writeAtDeadline_proc (s : State) (n : Index) (o : Nat) (a b : Word) : (s.writeAtDeadline n o a b).proc = s.proc := by
  simp only [State.writeAtDeadline]; (repeat' split) <;> simp
@[simp] theorem State.writeAtDeadline_port (s : State) (n : Index) (o : Nat) (a b : Word) : (s.writeAtDeadline n o a b).port = s.port := by
  simp only [State.writeAtDeadline]; (repeat' split) <;> simp
@[simp] theorem State.writeAtDeadline_timebase (s : State) (n : Index) (o : Nat) (a b : Word) : (s.writeAtDeadline n o a b).timebase = s.timebase := by
  simp only [State.writeAtDeadline]; (repeat' split) <;> simp
@[simp] theorem State.writeAtDeadline_scrubber (s : State) (n : Index) (o : Nat) (a b : Word) : (s.writeAtDeadline n o a b).scrubber = s.scrubber := by
  simp only [State.writeAtDeadline]; (repeat' split) <;> simp
@[simp] theorem State.writeAtDeadline_mem (s : State) (n : Index) (o : Nat) (a b : Word) : (s.writeAtDeadline n o a b).mem = s.mem := by
  simp only [State.writeAtDeadline]; (repeat' split) <;> simp
@[simp] theorem State.writeAtDeadline_freeCounter (s : State) (n : Index) (o : Nat) (a b : Word) : (s.writeAtDeadline n o a b).freeCounter = s.freeCounter := by
  simp only [State.writeAtDeadline]; (repeat' split) <;> simp
@[simp] theorem State.writeAtDeadline_pending (s : State) (n : Index) (o : Nat) (a b : Word) : (s.writeAtDeadline n o a b).pending = s.pending := by
  simp only [State.writeAtDeadline]; (repeat' split) <;> simp

@[simp] theorem State.expireDeadline_slots (s : State) (n : Index) : (s.expireDeadline n).slots = s.slots := by
  simp only [State.expireDeadline]; (repeat' split) <;> simp
@[simp] theorem State.expireDeadline_freeCount (s : State) (n : Index) : (s.expireDeadline n).freeCount = s.freeCount := by
  simp only [State.expireDeadline]; (repeat' split) <;> simp
@[simp] theorem State.expireDeadline_journal (s : State) (n : Index) : (s.expireDeadline n).journal = s.journal := by
  simp only [State.expireDeadline]; (repeat' split) <;> simp
@[simp] theorem State.expireDeadline_proc (s : State) (n : Index) : (s.expireDeadline n).proc = s.proc := by
  simp only [State.expireDeadline]; (repeat' split) <;> simp
@[simp] theorem State.expireDeadline_port (s : State) (n : Index) : (s.expireDeadline n).port = s.port := by
  simp only [State.expireDeadline]; (repeat' split) <;> simp
@[simp] theorem State.expireDeadline_timebase (s : State) (n : Index) : (s.expireDeadline n).timebase = s.timebase := by
  simp only [State.expireDeadline]; (repeat' split) <;> simp
@[simp] theorem State.expireDeadline_scrubber (s : State) (n : Index) : (s.expireDeadline n).scrubber = s.scrubber := by
  simp only [State.expireDeadline]; (repeat' split) <;> simp
@[simp] theorem State.expireDeadline_mem (s : State) (n : Index) : (s.expireDeadline n).mem = s.mem := by
  simp only [State.expireDeadline]; (repeat' split) <;> simp
@[simp] theorem State.expireDeadline_freeCounter (s : State) (n : Index) : (s.expireDeadline n).freeCounter = s.freeCounter := by
  simp only [State.expireDeadline]; (repeat' split) <;> simp
@[simp] theorem State.expireDeadline_pending (s : State) (n : Index) : (s.expireDeadline n).pending = s.pending := by
  simp only [State.expireDeadline]; (repeat' split) <;> simp

@[simp] theorem State.tickDeadline_slots (s : State) (n : Index) : (s.tickDeadline n).slots = s.slots := by
  simp only [State.tickDeadline]; (repeat' split) <;> simp
@[simp] theorem State.tickDeadline_freeCount (s : State) (n : Index) : (s.tickDeadline n).freeCount = s.freeCount := by
  simp only [State.tickDeadline]; (repeat' split) <;> simp
@[simp] theorem State.tickDeadline_journal (s : State) (n : Index) : (s.tickDeadline n).journal = s.journal := by
  simp only [State.tickDeadline]; (repeat' split) <;> simp
@[simp] theorem State.tickDeadline_proc (s : State) (n : Index) : (s.tickDeadline n).proc = s.proc := by
  simp only [State.tickDeadline]; (repeat' split) <;> simp
@[simp] theorem State.tickDeadline_port (s : State) (n : Index) : (s.tickDeadline n).port = s.port := by
  simp only [State.tickDeadline]; (repeat' split) <;> simp
@[simp] theorem State.tickDeadline_timebase (s : State) (n : Index) : (s.tickDeadline n).timebase = s.timebase := by
  simp only [State.tickDeadline]; (repeat' split) <;> simp
@[simp] theorem State.tickDeadline_scrubber (s : State) (n : Index) : (s.tickDeadline n).scrubber = s.scrubber := by
  simp only [State.tickDeadline]; (repeat' split) <;> simp
@[simp] theorem State.tickDeadline_mem (s : State) (n : Index) : (s.tickDeadline n).mem = s.mem := by
  simp only [State.tickDeadline]; (repeat' split) <;> simp
@[simp] theorem State.tickDeadline_freeCounter (s : State) (n : Index) : (s.tickDeadline n).freeCounter = s.freeCounter := by
  simp only [State.tickDeadline]; (repeat' split) <;> simp
@[simp] theorem State.tickDeadline_pending (s : State) (n : Index) : (s.tickDeadline n).pending = s.pending := by
  simp only [State.tickDeadline]; (repeat' split) <;> simp

@[simp] theorem State.tickEntry_slots (s : State) (n : Index) : (State.tickEntry n s).slots = s.slots := by
  simp [State.tickEntry]
@[simp] theorem State.tickEntry_freeCount (s : State) (n : Index) : (State.tickEntry n s).freeCount = s.freeCount := by
  simp [State.tickEntry]
@[simp] theorem State.tickEntry_journal (s : State) (n : Index) : (State.tickEntry n s).journal = s.journal := by
  simp [State.tickEntry]
@[simp] theorem State.tickEntry_proc (s : State) (n : Index) : (State.tickEntry n s).proc = s.proc := by
  simp [State.tickEntry]
@[simp] theorem State.tickEntry_port (s : State) (n : Index) : (State.tickEntry n s).port = s.port := by
  simp [State.tickEntry]
@[simp] theorem State.tickEntry_timebase (s : State) (n : Index) : (State.tickEntry n s).timebase = s.timebase := by
  simp [State.tickEntry]
@[simp] theorem State.tickEntry_scrubber (s : State) (n : Index) : (State.tickEntry n s).scrubber = s.scrubber := by
  simp [State.tickEntry]
@[simp] theorem State.tickEntry_mem (s : State) (n : Index) : (State.tickEntry n s).mem = s.mem := by
  simp [State.tickEntry]
@[simp] theorem State.tickEntry_freeCounter (s : State) (n : Index) : (State.tickEntry n s).freeCounter = s.freeCounter := by
  simp [State.tickEntry]
@[simp] theorem State.tickEntry_pending (s : State) (n : Index) : (State.tickEntry n s).pending = s.pending := by
  simp [State.tickEntry]

@[simp] theorem State.judgeArmed_freeCount (s : State) (n : Index) (o : Nat) (a b : Word) : (s.judgeArmed n o a b).freeCount = s.freeCount := by
  simp only [State.judgeArmed]; (repeat' split) <;> simp
@[simp] theorem State.judgeArmed_journal (s : State) (n : Index) (o : Nat) (a b : Word) : (s.judgeArmed n o a b).journal = s.journal := by
  simp only [State.judgeArmed]; (repeat' split) <;> simp
@[simp] theorem State.judgeArmed_proc (s : State) (n : Index) (o : Nat) (a b : Word) : (s.judgeArmed n o a b).proc = s.proc := by
  simp only [State.judgeArmed]; (repeat' split) <;> simp
@[simp] theorem State.judgeArmed_port (s : State) (n : Index) (o : Nat) (a b : Word) : (s.judgeArmed n o a b).port = s.port := by
  simp only [State.judgeArmed]; (repeat' split) <;> simp
@[simp] theorem State.judgeArmed_timebase (s : State) (n : Index) (o : Nat) (a b : Word) : (s.judgeArmed n o a b).timebase = s.timebase := by
  simp only [State.judgeArmed]; (repeat' split) <;> simp
@[simp] theorem State.judgeArmed_scrubber (s : State) (n : Index) (o : Nat) (a b : Word) : (s.judgeArmed n o a b).scrubber = s.scrubber := by
  simp only [State.judgeArmed]; (repeat' split) <;> simp
@[simp] theorem State.judgeArmed_mem (s : State) (n : Index) (o : Nat) (a b : Word) : (s.judgeArmed n o a b).mem = s.mem := by
  simp only [State.judgeArmed]; (repeat' split) <;> simp
@[simp] theorem State.judgeArmed_freeCounter (s : State) (n : Index) (o : Nat) (a b : Word) : (s.judgeArmed n o a b).freeCounter = s.freeCounter := by
  simp only [State.judgeArmed]; (repeat' split) <;> simp
@[simp] theorem State.judgeArmed_pending (s : State) (n : Index) (o : Nat) (a b : Word) : (s.judgeArmed n o a b).pending = s.pending := by
  simp only [State.judgeArmed]; (repeat' split) <;> simp

@[simp] theorem State.writeAtEntry_freeCount (s : State) (w : HostWrite) (n : Index) : (State.writeAtEntry w n s).freeCount = s.freeCount := by
  simp only [State.writeAtEntry]; (repeat' split) <;> simp
@[simp] theorem State.writeAtEntry_journal (s : State) (w : HostWrite) (n : Index) : (State.writeAtEntry w n s).journal = s.journal := by
  simp only [State.writeAtEntry]; (repeat' split) <;> simp
@[simp] theorem State.writeAtEntry_proc (s : State) (w : HostWrite) (n : Index) : (State.writeAtEntry w n s).proc = s.proc := by
  simp only [State.writeAtEntry]; (repeat' split) <;> simp
@[simp] theorem State.writeAtEntry_port (s : State) (w : HostWrite) (n : Index) : (State.writeAtEntry w n s).port = s.port := by
  simp only [State.writeAtEntry]; (repeat' split) <;> simp
@[simp] theorem State.writeAtEntry_timebase (s : State) (w : HostWrite) (n : Index) : (State.writeAtEntry w n s).timebase = s.timebase := by
  simp only [State.writeAtEntry]; (repeat' split) <;> simp
@[simp] theorem State.writeAtEntry_scrubber (s : State) (w : HostWrite) (n : Index) : (State.writeAtEntry w n s).scrubber = s.scrubber := by
  simp only [State.writeAtEntry]; (repeat' split) <;> simp
@[simp] theorem State.writeAtEntry_mem (s : State) (w : HostWrite) (n : Index) : (State.writeAtEntry w n s).mem = s.mem := by
  simp only [State.writeAtEntry]; (repeat' split) <;> simp
@[simp] theorem State.writeAtEntry_freeCounter (s : State) (w : HostWrite) (n : Index) : (State.writeAtEntry w n s).freeCounter = s.freeCounter := by
  simp only [State.writeAtEntry]; (repeat' split) <;> simp
@[simp] theorem State.writeAtEntry_pending (s : State) (w : HostWrite) (n : Index) : (State.writeAtEntry w n s).pending = s.pending := by
  simp only [State.writeAtEntry]; (repeat' split) <;> simp

@[simp] theorem State.evaluate_freeCount (s : State) (w : HostWrite) : (s.evaluate w).freeCount = s.freeCount := forEach_freeCount _ (by simp) _ _
@[simp] theorem State.evaluate_journal (s : State) (w : HostWrite) : (s.evaluate w).journal = s.journal := forEach_journal _ (by simp) _ _
@[simp] theorem State.evaluate_proc (s : State) (w : HostWrite) : (s.evaluate w).proc = s.proc := forEach_proc _ (by simp) _ _
@[simp] theorem State.evaluate_port (s : State) (w : HostWrite) : (s.evaluate w).port = s.port := forEach_port _ (by simp) _ _
@[simp] theorem State.evaluate_timebase (s : State) (w : HostWrite) : (s.evaluate w).timebase = s.timebase := forEach_timebase _ (by simp) _ _
@[simp] theorem State.evaluate_scrubber (s : State) (w : HostWrite) : (s.evaluate w).scrubber = s.scrubber := forEach_scrubber _ (by simp) _ _
@[simp] theorem State.evaluate_mem (s : State) (w : HostWrite) : (s.evaluate w).mem = s.mem := forEach_mem _ (by simp) _ _
@[simp] theorem State.evaluate_freeCounter (s : State) (w : HostWrite) : (s.evaluate w).freeCounter = s.freeCounter := forEach_freeCounter _ (by simp) _ _
@[simp] theorem State.evaluate_pending (s : State) (w : HostWrite) : (s.evaluate w).pending = s.pending := forEach_pending _ (by simp) _ _

@[simp] theorem State.flushRequest_slots (s : State) : (s.flushRequest).slots = s.slots := forEach_slots _ (by simp) _ _
@[simp] theorem State.flushRequest_freeCount (s : State) : (s.flushRequest).freeCount = s.freeCount := forEach_freeCount _ (by simp) _ _
@[simp] theorem State.flushRequest_journal (s : State) : (s.flushRequest).journal = s.journal := forEach_journal _ (by simp) _ _
@[simp] theorem State.flushRequest_proc (s : State) : (s.flushRequest).proc = s.proc := forEach_proc _ (by simp) _ _
@[simp] theorem State.flushRequest_port (s : State) : (s.flushRequest).port = s.port := forEach_port _ (by simp) _ _
@[simp] theorem State.flushRequest_timebase (s : State) : (s.flushRequest).timebase = s.timebase := forEach_timebase _ (by simp) _ _
@[simp] theorem State.flushRequest_scrubber (s : State) : (s.flushRequest).scrubber = s.scrubber := forEach_scrubber _ (by simp) _ _
@[simp] theorem State.flushRequest_mem (s : State) : (s.flushRequest).mem = s.mem := forEach_mem _ (by simp) _ _
@[simp] theorem State.flushRequest_freeCounter (s : State) : (s.flushRequest).freeCounter = s.freeCounter := forEach_freeCounter _ (by simp) _ _
@[simp] theorem State.flushRequest_pending (s : State) : (s.flushRequest).pending = s.pending := forEach_pending _ (by simp) _ _

end Sys2Proof.Machine
end

