-- ==== Sys2Proof/Laws/Memory.lean ====
section
/-! SUPPORT. Memory: a read after a write, and the canonical form kept by every write. -/

namespace Sys2Proof.Machine

/-! ## Reading after writing a byte -/

theorem readByte_insertCell (m : Memory) (a x : Nat) (b : Byte) (h : ∀ cell ∈ m, cell.1 ≠ a) :
    Memory.readByte (Memory.insertCell a b m) x = if x = a then b else Memory.readByte m x := by
  induction m with
  | nil => simp [Memory.insertCell, Memory.readByte, eq_comm]
  | cons cell m ih =>
    obtain ⟨k, c⟩ := cell
    have hk : k ≠ a := h (k, c) (by simp)
    have ih := ih fun d hd => h d (by simp [hd])
    by_cases hlt : a < k
    · simp only [Memory.insertCell, hlt, if_true, Memory.readByte, eq_comm (a := a)]
    · simp only [Memory.insertCell, hlt, if_false, Memory.readByte, ih]
      by_cases hkx : k = x
      · simp only [hkx, if_true, if_neg (hkx ▸ hk)]
      · simp only [hkx, if_false]

theorem readByte_others (m : Memory) (a x : Nat) :
    Memory.readByte (m.filter fun cell => cell.1 ≠ a) x = if x = a then Memory.background else Memory.readByte m x := by
  induction m with
  | nil => simp [Memory.readByte]
  | cons cell m ih =>
    obtain ⟨k, c⟩ := cell
    by_cases hka : k = a <;> by_cases hkx : k = x <;> by_cases hxa : x = a <;>
      simp_all [Memory.readByte]

/-- A byte reads as what was last written to it, and every other byte as before. -/
theorem readByte_writeByte (m : Memory) (a x : Nat) (b : Byte) :
    Memory.readByte (Memory.writeByte m a b) x = if x = a then b else Memory.readByte m x := by
  unfold Memory.writeByte
  by_cases hb : b = Memory.background
  · simp only [hb, ↓reduceIte]
    exact readByte_others m a x
  · simp only [hb, ↓reduceIte]
    rw [readByte_insertCell _ _ _ _ (by simp), readByte_others]
    split <;> rfl

/-! ## The canonical form -/

theorem mem_insertCell (m : Memory) (a : Nat) (b : Byte) (cell : Nat × Byte) :
    cell ∈ Memory.insertCell a b m ↔ cell = (a, b) ∨ cell ∈ m := by
  induction m with
  | nil => simp [Memory.insertCell]
  | cons c m ih =>
    obtain ⟨k, d⟩ := c
    by_cases h : a < k <;> simp [Memory.insertCell, h, ih, or_left_comm]

theorem pairwise_insertCell (m : Memory) (a : Nat) (b : Byte) (hm : m.Pairwise fun x y => x.1 < y.1)
    (h : ∀ cell ∈ m, cell.1 ≠ a) : (Memory.insertCell a b m).Pairwise fun x y => x.1 < y.1 := by
  induction m with
  | nil => simp [Memory.insertCell]
  | cons c m ih =>
    obtain ⟨k, d⟩ := c
    have hk : k ≠ a := h (k, d) (by simp)
    rw [List.pairwise_cons] at hm
    by_cases hlt : a < k
    · rw [Memory.insertCell, if_pos hlt, List.pairwise_cons, List.pairwise_cons]
      refine ⟨fun y hy => ?_, hm⟩
      rcases List.mem_cons.1 hy with rfl | hy
      · exact hlt
      · exact lt_trans hlt (hm.1 y hy)
    · simp only [Memory.insertCell, hlt, ↓reduceIte, List.pairwise_cons, mem_insertCell]
      refine ⟨?_, ih hm.2 fun cell hc => h cell (by simp [hc])⟩
      rintro y (rfl | hy)
      · show k < a
        omega
      · exact hm.1 y hy

/-- Writing a byte of the address space keeps the canonical form. -/
theorem writeByte_wf (m : Memory) (a : Nat) (b : Byte) (ha : a < Memory.size) (hm : Memory.wf m) :
    Memory.wf (Memory.writeByte m a b) := by
  unfold Memory.writeByte
  have hf : Memory.wf (m.filter fun cell => cell.1 ≠ a) :=
    ⟨hm.1.filter _, fun cell hc => hm.2 cell (List.mem_of_mem_filter hc)⟩
  by_cases hb : b = Memory.background
  · simpa only [hb, ↓reduceIte] using hf
  · simp only [hb, ↓reduceIte]
    refine ⟨pairwise_insertCell _ a b hf.1 (by simp), fun cell hc => ?_⟩
    rcases (mem_insertCell _ a b cell).1 hc with rfl | h
    · exact ⟨ha, hb⟩
    · exact hf.2 cell h

theorem lowerCell_lt (a : Addr) : lowerCell a < Memory.size := by
  have := a.isLt
  simp only [lowerCell, Memory.size]; omega

theorem upperCell_lt (a : Addr) : upperCell a < Memory.size := by
  have := a.isLt
  simp only [upperCell, Memory.size]; omega

/-- A write of any lanes keeps the canonical form. -/
theorem writeLanes_wf (m : Memory) (a : Addr) (lanes : Lanes) (data : Word) (hm : Memory.wf m) :
    Memory.wf (Memory.writeLanes m a lanes data) := by
  have h1 : Memory.wf (if lanes.lower then Memory.writeByte m (lowerCell a) (lowerByte data) else m) := by
    split
    · exact writeByte_wf _ _ _ (lowerCell_lt a) hm
    · exact hm
  simp only [Memory.writeLanes]
  split
  · exact writeByte_wf _ _ _ (upperCell_lt a) h1
  · exact h1

/-- A write of a whole word keeps the canonical form. -/
theorem writeWord_wf (m : Memory) (a : Addr) (data : Word) (hm : Memory.wf m) : Memory.wf (Memory.writeWord m a data) :=
  writeLanes_wf m a Lanes.both data hm

/-! ## Reading a word after a write -/

@[simp] theorem upperByte_joinBytes (u l : Byte) : upperByte (joinBytes u l) = u := by
  show BitVec.extractLsb' 8 8 (u ++ l : BitVec (8 + 8)) = u
  ext i hi
  rw [BitVec.getElem_extractLsb', BitVec.getLsbD_append]
  simp [BitVec.getLsbD_eq_getElem, hi]

@[simp] theorem lowerByte_joinBytes (u l : Byte) : lowerByte (joinBytes u l) = l := by
  show BitVec.extractLsb' 0 8 (u ++ l : BitVec (8 + 8)) = l
  ext i hi
  rw [BitVec.getElem_extractLsb', BitVec.getLsbD_append]
  simp [BitVec.getLsbD_eq_getElem, hi]

@[simp] theorem joinBytes_bytes (w : Word) : joinBytes (upperByte w) (lowerByte w) = w := by
  apply BitVec.eq_of_getLsbD_eq
  intro i hi
  show (BitVec.extractLsb' 8 8 w ++ BitVec.extractLsb' 0 8 w : BitVec (8 + 8)).getLsbD i = w.getLsbD i
  rw [BitVec.getLsbD_append]
  by_cases h : i < 8
  · simp [h]
  · have h1 : i - 8 < 8 := by omega
    have h2 : 8 + (i - 8) = i := by omega
    simp [h, h1, h2]

theorem cell_injective {a b : Addr} (h : lowerCell a = lowerCell b ∨ upperCell a = upperCell b) : a = b := by
  apply BitVec.eq_of_toNat_eq
  rcases h with h | h <;> simp only [lowerCell, upperCell] at h <;> omega

theorem lowerCell_ne_upperCell (a b : Addr) : lowerCell a ≠ upperCell b := by
  simp only [lowerCell, upperCell]; omega

/-- A word reads, after a write of some lanes, as the lanes written over what it held, and every other word as
before. -/
theorem readWord_writeLanes (m : Memory) (a x : Addr) (lanes : Lanes) (data : Word) :
    Memory.readWord (Memory.writeLanes m a lanes data) x =
      if x = a then mergeLanes lanes (Memory.readWord m a) data else Memory.readWord m x := by
  by_cases hx : x = a
  · subst hx
    have h := lowerCell_ne_upperCell x x
    cases lanes with
    | mk lo up => cases lo <;> cases up <;>
        simp [Memory.readWord, Memory.writeLanes, mergeLanes, readByte_writeByte, h, h.symm]
  · have h1 : lowerCell x ≠ lowerCell a := fun h => hx (cell_injective (.inl h))
    have h2 : upperCell x ≠ upperCell a := fun h => hx (cell_injective (.inr h))
    have h3 := lowerCell_ne_upperCell x a
    have h4 := (lowerCell_ne_upperCell a x).symm
    cases lanes with
    | mk lo up => cases lo <;> cases up <;>
        simp [Memory.readWord, Memory.writeLanes, readByte_writeByte, hx, h1, h2, h3, h4]

theorem mergeLanes_both (old data : Word) : mergeLanes Lanes.both old data = data := by
  simp [mergeLanes, Lanes.both]

/-- A word reads as what was last written to it, and every other word as before. -/
theorem readWord_writeWord (m : Memory) (a x : Addr) (data : Word) :
    Memory.readWord (Memory.writeWord m a data) x = if x = a then data else Memory.readWord m x := by
  rw [Memory.writeWord, readWord_writeLanes, mergeLanes_both]

end Sys2Proof.Machine
end

