-- ==== Sys2Proof/Laws/Port.lean ====
section
/-! SUPPORT. The port: what a grant can do, and what taking an access is once the port lets it be taken. -/

namespace Sys2Proof.Machine

/-- A host write that the port lets be taken is taken in the state `hostTaking` (R132, R135). -/
theorem takeHostWrite_of_ready {s : State} (h : s.hostReady) (w : HostWrite) :
    s.takeHostWrite w = s.hostTaking.hostWriteTaken w := by
  obtain ⟨hr, ⟨v, hv⟩ | ⟨hp, hg⟩⟩ := h
  · simp [State.takeHostWrite, hr, hv, State.hostTaking]
  · have hw : ∀ p : Port, State.internalWaits { s with port := p } = s.internalWaits := fun _ => rfl
    have hi : (s.internalWaits && decide (Config.guardLimit ≤ s.port.guard)) = false := by
      rcases hg with hg | hg
      · simp [hg]
      · simp; intro _; exact hg
    simp only [State.takeHostWrite, hr, hp, State.hostTaking, State.present, State.grant, hw]
    simp [hi, State.grantHost, State.freePort, State.guardAfterHostGrant, hw]

/-- An internal access that the port lets be taken is taken in the state `internalTaking` (R135, R137). -/
theorem takeInternal_of_ready {s : State} {c : Claimant} (h : s.internalReady c) (f : State → State) :
    s.takeInternal c f = f s.internalTaking := by
  simp only [State.internalReady] at h
  simp [State.takeInternal, h, State.internalTaking]

/-- An internal access that the port does not let be taken waits: only the grant of another access is made. -/
theorem takeInternal_of_not_ready {s : State} {c : Claimant} (h : ¬s.internalReady c) (f : State → State) :
    s.takeInternal c f = s.grant := by
  simp only [State.internalReady] at h
  simp [State.takeInternal, h]

/-- Everything a grant can do (R135): nothing, the host's access, or an internal claim that waits. -/
theorem grant_cases (s : State) :
    s.grant = s ∨
    (s.port.resetAsserted = false ∧ s.port.performing = none ∧
      (s.internalWaits = false ∨ s.port.guard < Config.guardLimit) ∧
      ∃ a, s.port.hostWaiting = some a ∧ s.grant = s.grantHost a) ∨
    (s.port.resetAsserted = false ∧ s.port.performing = none ∧
      ∃ c, s.claims c = true ∧ s.rotationChoice = some c ∧ s.grant = s.grantInternal c) := by
  have hc : ∀ c, s.rotationChoice = some c → s.claims c = true := fun c h => by
    simpa using List.find?_some h
  have hn : s.rotationChoice = none → s.internalWaits = false := by
    intro h
    simp only [State.rotationChoice, List.find?_eq_none] at h
    have h1 := h s.port.pointer (by simp)
    have h2 := h s.port.pointer.next (by simp)
    have h3 := h s.port.pointer.next.next (by simp)
    revert h1 h2 h3
    cases s.port.pointer <;> simp_all [Claimant.next, State.internalWaits]
  by_cases hb : s.port.resetAsserted || s.port.performing.isSome
  · left; simp only [State.grant, hb, if_true]
  · obtain ⟨hr, hp⟩ : s.port.resetAsserted = false ∧ s.port.performing = none := by
      simpa using hb
    unfold State.grant
    rw [if_neg hb]
    cases hw : s.port.hostWaiting with
    | none =>
      cases hch : s.rotationChoice with
      | none => exact .inl rfl
      | some c => exact .inr (.inr ⟨hr, hp, c, hc c hch, rfl, rfl⟩)
    | some a =>
      by_cases hg : s.internalWaits && decide (Config.guardLimit ≤ s.port.guard)
      · cases hch : s.rotationChoice with
        | none => simp [hn hch] at hg
        | some c => exact .inr (.inr ⟨hr, hp, c, hc c hch, rfl, by simp [hg]⟩)
      · refine .inr (.inl ⟨hr, hp, ?_, a, rfl, by simp [hg]⟩)
        by_cases hi : s.internalWaits
        · right; simpa [hi] using hg
        · left; simpa using hi

/-- The access that the port performs in an `internalReady` state is taken with every other field as it was, and the
memory free. -/
theorem internalReady_claims {s : State} {c : Claimant} (h : s.internalReady c) :
    s.port.performing = some (.internal c) ∧ s.grant = s ∨
      s.port.performing = none ∧ s.claims c = true ∧ s.grant = s.grantInternal c := by
  rcases grant_cases s with hg | ⟨_, hp, _, a, _, hg⟩ | ⟨_, hp, d, hd, _, hg⟩ <;>
    simp only [State.internalReady, hg] at h
  · exact .inl ⟨h, hg⟩
  · cases a <;> simp [State.grantHost, hp] at h
  · obtain rfl : d = c := by simpa [State.grantInternal] using h
    exact .inr ⟨hp, hd, hg⟩

end Sys2Proof.Machine
end

