-- ==== Sys2Proof/Laws/Queue.lean ====
section
/-! SUPPORT. What an arrival at the Event Queue can do, and the counters it moves. -/

namespace Sys2Proof.Machine

@[simp] theorem EventQueue.setList_created (q : EventQueue) (c : EventClass) (l : List Event) :
    (q.setList c l).created = q.created := rfl
@[simp] theorem EventQueue.setList_journaled (q : EventQueue) (c : EventClass) (l : List Event) :
    (q.setList c l).journaled = q.journaled := rfl
@[simp] theorem EventQueue.setList_lost (q : EventQueue) (c : EventClass) (l : List Event) :
    (q.setList c l).lost = q.lost := rfl
@[simp] theorem EventQueue.setList_unreported (q : EventQueue) (c : EventClass) (l : List Event) :
    (q.setList c l).unreported = q.unreported := rfl
@[simp] theorem EventQueue.setList_takeMet (q : EventQueue) (c : EventClass) (l : List Event) :
    (q.setList c l).takeMet = q.takeMet := rfl
@[simp] theorem EventQueue.append_created (q : EventQueue) (e : Event) : (q.append e).created = q.created := rfl
@[simp] theorem EventQueue.append_journaled (q : EventQueue) (e : Event) : (q.append e).journaled = q.journaled := rfl
@[simp] theorem EventQueue.append_lost (q : EventQueue) (e : Event) : (q.append e).lost = q.lost := rfl
@[simp] theorem EventQueue.append_unreported (q : EventQueue) (e : Event) :
    (q.append e).unreported = q.unreported := rfl
@[simp] theorem EventQueue.append_takeMet (q : EventQueue) (e : Event) : (q.append e).takeMet = q.takeMet := rfl
@[simp] theorem EventQueue.countLost_created (q : EventQueue) (c : EventClass) :
    (q.countLost c).created = q.created := rfl
@[simp] theorem EventQueue.countLost_journaled (q : EventQueue) (c : EventClass) :
    (q.countLost c).journaled = q.journaled := rfl
@[simp] theorem EventQueue.countLost_lists (q : EventQueue) (c : EventClass) : (q.countLost c).lists = q.lists := rfl
@[simp] theorem EventQueue.countLost_takeMet (q : EventQueue) (c : EventClass) :
    (q.countLost c).takeMet = q.takeMet := rfl

/-- A full queue loses one event of some class: the newcomer's, or of the least urgent class present (R75). -/
theorem EventQueue.arriveFull_cases (q : EventQueue) (e : Event) :
    q.arriveFull e = q.countLost e.cls ∨
      ∃ z, q.leastUrgent = some z ∧ e.cls.toNat < z.toNat ∧
        q.arriveFull e = ((q.setList z (q.list z).dropLast).countLost z).append e := by
  unfold EventQueue.arriveFull
  split
  next z hz => split <;> simp_all
  next => exact .inl rfl

/-- An arrival is appended where there is room, and is dealt with by R75 where there is none (R70). -/
theorem EventQueue.arrive_cases (q : EventQueue) (e : Event) :
    (q.depth < Config.queueCapacity ∧ q.arrive e = ({ q with created := q.created + 1 } : EventQueue).append e) ∨
      (Config.queueCapacity ≤ q.depth ∧ q.arrive e = ({ q with created := q.created + 1 } : EventQueue).arriveFull e) := by
  unfold EventQueue.arrive
  split
  · exact .inl ⟨‹_›, rfl⟩
  · exact .inr ⟨Nat.le_of_not_lt ‹_›, rfl⟩

/-- Every arrival raises the created total; none changes the journaled total or `takeMet` (R70, R78). -/
theorem EventQueue.arrive_totals (q : EventQueue) (e : Event) :
    (q.arrive e).created = q.created + 1 ∧ (q.arrive e).journaled = q.journaled ∧ (q.arrive e).takeMet = q.takeMet := by
  rcases q.arrive_cases e with ⟨-, h⟩ | ⟨-, h⟩ <;> rw [h]
  · exact ⟨rfl, rfl, rfl⟩
  · rcases EventQueue.arriveFull_cases ({ q with created := q.created + 1 }) e with h' | ⟨z, -, -, h'⟩ <;> rw [h'] <;>
      exact ⟨rfl, rfl, rfl⟩

@[simp] theorem EventQueue.meetTake_lists (q : EventQueue) (d : Bool) : (q.meetTake d).lists = q.lists := rfl
@[simp] theorem EventQueue.meetTake_created (q : EventQueue) (d : Bool) : (q.meetTake d).created = q.created := rfl
@[simp] theorem EventQueue.meetTake_journaled (q : EventQueue) (d : Bool) : (q.meetTake d).journaled = q.journaled := rfl
@[simp] theorem EventQueue.meetTake_lost (q : EventQueue) (d : Bool) : (q.meetTake d).lost = q.lost := rfl
@[simp] theorem EventQueue.meetTake_unreported (q : EventQueue) (d : Bool) : (q.meetTake d).unreported = q.unreported := rfl
@[simp] theorem EventQueue.meetTake_depth (q : EventQueue) (d : Bool) : (q.meetTake d).depth = q.depth := rfl

/-- An act that began with no take due leaves the queue as its arrivals do (R72, R87). -/
@[simp] theorem EventQueue.meetTake_false (q : EventQueue) : q.meetTake false = q := by simp [EventQueue.meetTake]

/-- An act that loses no event meets no take. -/
theorem EventQueue.meetTake_of_no_loss (q : EventQueue) (d : Bool) (h : q.hasUnreported = false) : q.meetTake d = q := by
  simp [EventQueue.meetTake, h]

end Sys2Proof.Machine
end

