-- ==== Sys2Proof/Tests/Slice0.lean ====
section
/-! SUPPORT. Tests of the model on small states: the WellFormed check, one or two steps for each kind of command with the
values the spec's text and examples give, and for every statement with hypotheses a state that meets them. -/

namespace Sys2Proof.Tests

open Sys2Proof Sys2Proof.Machine

-- One theorem at a time: each kernel evaluation started beside the others would take a thread and its stack.
set_option Elab.async false

/-! ## Small states -/

/-- The state an outcome gives. -/
def after (c : Instr) (s : State) : State :=
  match exec c s with
  | .next t => t
  | .fault _ => s
  | .refused _ => s

/-- The part right after start-up: IDLE, nothing claimed, nothing pending. -/
def idle : State := { State.reset with
  proc := { State.reset.proc with state := .idle, startupWrites := [], pendingRefusal := none, claim := none } }

/-- Puts an entry, with the slots it names, into a state. -/
def place (n : Index) (e : Entry) (s : State) : State := (s.claimSlots e.slots).setEntry n e

/-- An ARMED RISE entry on words F200h and F201h, with holdoff 3 and no deadline. -/
def watcher : Entry := { Entry.free with
  state := .armed, base := 0xF200, span := 2, sense := .rise, mask := 0x00FF, cls := 1, tag := 0xABCD, holdoff := 3
  primeProgress := 2, slots := [0, 1] }

/-- The watcher at entry 5. -/
def watched : State := place 5 watcher idle

/-- A watcher with a merged trigger, in the last tick of its holdoff. -/
def merging : State := place 5
  { watcher with holdoffState := .holding, holdoffRemaining := 1, merge := ⟨2, 1, 0x0001, 0x0003⟩ } idle

/-- A STALE heartbeat entry of period 4 and miss limit 2. -/
def stale : State := place 5
  { watcher with deadline := 4, missLimit := 2, deadlineState := .stale, missCount := 2 } idle

/-- The watcher at COMMAND and ARGUMENT, with its control block at 00000h. -/
def watchingCommand : State := place 5 { watcher with base := 0x00000 } idle

/-- A ring of four COMPACT records at 30000h with T = 2, P = 5 and C = 1 (the table of R94). -/
def ring : Journal :=
  Journal.mk 0x30000 4 .compact 2 5 1 5 true true 0 none none

/-- The ring installed. -/
def ringed : State := { idle with journal := ring }

/-- The ring with one record consumed, so that the writer is READY. -/
def ready : State := { idle with journal := { ring with consume := 3, urgentIndex := 5 } }

/-- An event of class 2. -/
def sample : Event := ⟨.mark, 2, 0, 0, 0, 0, 0x1111, 0, 7⟩

/-- The Event Queue with 32 events of class 2. -/
def fullQueue : EventQueue := { EventQueue.reset with
  lists := (Vector.replicate 4 []).set 2 (List.replicate 32 sample), created := 32 }

/-- The Command Processor in a state with a command, its work claimed. -/
def working (st : ProcessorState) (c : CommandSlot) (words : List Word) (s : State) : State :=
  { s with proc := { s.proc with state := st, slot := some c, readWords := words, claim := some .work } }

/-- The reset input held asserted. -/
def inReset : State := { idle with port := { idle.port with resetAsserted := true } }

/-- A write of FFFFh to F201h. -/
def poke : HostWrite := ⟨0xF201, Lanes.both, 0xFFFF⟩

/-! ## WellFormed -/

theorem test_badop_of_a_used_opcode_is_ill_formed : Instr.wellFormed (.badop 3 0 0) = false := by decide
theorem test_badop_of_restart_is_ill_formed : Instr.wellFormed (.badop 15 0 0) = false := by decide
theorem test_badop_of_eleven_is_well_formed : Instr.wellFormed (.badop 11 0 0) = true := by decide

/-! ## Steps with values from the spec -/

/-- R106: CBSEL1 high and CBSEL0 low put the control block at 80000h. -/
theorem test_release_samples_straps :
    (after (.resetRelease true false) inReset).cb 0x010 = 0x80010 := by decide +kernel

/-- R107, R109: the release of reset gives the Command Processor its values after reset. -/
theorem test_release_after_reset :
    (after (.resetRelease false false) (after .pinReset idle)).proc = State.reset.proc := by decide +kernel

/-- R109: the first start-up write stores 0000h in COMPLETION, and REFUSAL comes next. -/
theorem test_startup_first_write :
    (after .startupWrite State.reset).proc.startupWrites = [.refusal, .produce, .presence] := by decide +kernel

/-- R126: a RESTART of a taken LOAD owes it ABORTED. -/
theorem test_restart_owes_aborted :
    (after (.restart 0 9) (working .reading ⟨1, 5, 7⟩ [] idle)).proc.owedAborted = some ⟨1, 7⟩ := by decide +kernel

/-- 10.2: the command word 040Fh is opcode 15 with tag 1 (11, section 11.2). -/
theorem test_command_word : commandWord 15 0 1 = 0x040F := by decide

/-- R42: the first trigger is an EDGE, and the entry is HOLDING with the whole holdoff. -/
theorem test_edge_opens_holdoff :
    ((after (.hostWrite 0xF201 Lanes.both 0x0001) watched).entry 5).holdoffRemaining = 3 := by decide +kernel

/-- R35: a byte write whose lane holds no selected bit does not trigger. -/
theorem test_unselected_lane_is_silent :
    (after (.hostWrite 0xF201 ⟨false, true⟩ 0xFFFF) watched).queue = watched.queue := by decide +kernel

/-- R44: an expiry with a merge of 2 reports count 2 and starts a new period of 3. -/
theorem test_holdoff_expiry_reports_count :
    ((after (.holdoffExpiry 5) merging).queue.list 1).map (·.count) = [2] := by decide +kernel

/-- R44: the expiry is part of a tick event, and comes with the counter's increase. -/
theorem test_holdoff_expiry_ticks : (after (.holdoffExpiry 5) merging).timebase.tick = 1 := by decide +kernel

/-- R74: a newcomer of class 0 at a queue full of class 2 is dealt with before the take of a READY writer, and the take
hands the writer the newcomer. -/
theorem test_take_after_arrival_at_full_queue :
    (after .beginRecord (State.meetTake { ready with queue := fullQueue }
      { ready with queue := fullQueue.arrive { sample with cls := 0 } })).journal.record
      = some ⟨.event { sample with cls := 0 }, 5, 0⟩ := by decide +kernel

/-- R72, R87: 33 arrivals of one act at an empty queue meet no take, and the writer then begins a LOSS record. -/
theorem test_loss_after_arrivals_at_empty_queue :
    (after .beginRecord (ready.meetTake
      { ready with queue := ready.queue.arriveAll (List.replicate 33 sample) })).journal.record
      = some ⟨.loss ((Vector.replicate 4 0).set 2 1) 0, 5, 0⟩ := by decide +kernel

/-- R40: an entry that watches COMMAND judges a command write: a SUSPEND of the entry itself, EDGE first. -/
theorem test_command_write_is_judged :
    ((after (.suspend 5 0) watchingCommand).queue.list 1).map (·.new) = [0x0053] := by decide +kernel

/-- R60: the write at a STALE entry creates FRESH, then EDGE. -/
theorem test_fresh_before_edge :
    ((after (.hostWrite 0xF200 Lanes.both 0x0001) stale).queue.list 1).map (·.kind) = [.fresh, .edge] := by
  decide +kernel

/-- R75: a class-0 newcomer at a queue full of class 2 displaces one. -/
theorem test_displacement : (fullQueue.arrive { sample with cls := 0 }).lostOf 2 = 1 := by decide +kernel

/-- R94: with L = 4, P = 5 and C = 1, the value 3 is legal. -/
theorem test_consume_legal : (after (.consume Lanes.both 3) ringed).journal.consume = 3 := by decide +kernel

/-- R94: in the same ring the value 0 is a move backwards. -/
theorem test_consume_backwards : (after (.consume Lanes.both 0) ringed).journal.consume = 1 := by decide +kernel

/-- R19: a DISARM frees the entry's two slots. -/
theorem test_disarm_frees_slots : (after (.disarm 5 0) watched).freeCount = 256 := by decide +kernel

/-- R110: a second command at once is refused with BUSY: opcode 3, tag 2, code 02h. -/
theorem test_busy_refusal :
    (after (.suspend 5 2) (after (.load 5 1) idle)).proc.pendingRefusal = some 0x0823 := by decide +kernel

/-- R101: a waiting request is taken by a READY writer. -/
theorem test_install_request_taken :
    (after .installRequestTaken { ready with journal := { ready.journal with
      install := some ⟨0x40000, 4, .full, 1, false⟩ } }).journal.claims = true := by decide +kernel

/-- R136: a host grant with an internal claim waiting raises g. -/
theorem test_host_grant_raises_guard :
    (after (.hostAccessPresented (.read 0x1234)) State.reset).port.guard = 1 := by decide +kernel

/-- R138: with g at 8 and a claim waiting, the host waits. -/
theorem test_host_waits_at_eight :
    (after (.hostAccessPresented (.read 0x1234)) { State.reset with
      port := { State.reset.port with guard := 8 } }).port.wait = true := by decide +kernel

/-- R143: the 25000th period makes the tick. -/
theorem test_last_period_ticks :
    (after .referenceClockPeriod { idle with timebase := { idle.timebase with phase := 24999 } }).timebase.tick = 1 := by
  decide +kernel

/-- R133: a memory-side write is not judged. -/
theorem test_memory_side_write_is_silent :
    (after (.memorySideAgentWrite 0xF201 0x0001) watched).queue = watched.queue := by decide +kernel

/-- R85: after slot 3 with lap 0 comes slot 0 with lap 1, for L = 4. -/
theorem test_lap_bit : (ring.slotOf 4, ring.lapOf 4) = (0, true) := by decide

/-- 10.6: the header of a class-0 NOTICE, FULL, lap 0, entry 0 is E200h. -/
theorem test_notice_header :
    recordHeader .full false (.event { sample with kind := .notice, cls := 0 }) = 0xE200 := by decide

/-! ## The hypotheses of the statements are met -/

theorem idle_hostReady : idle.hostReady := ⟨rfl, .inr ⟨rfl, .inl (by decide +kernel)⟩⟩
theorem watched_hostReady : watched.hostReady := ⟨rfl, .inr ⟨rfl, .inl (by decide +kernel)⟩⟩
theorem merging_hostReady : merging.hostReady := ⟨rfl, .inr ⟨rfl, .inl (by decide +kernel)⟩⟩
theorem watchingCommand_hostReady : watchingCommand.hostReady := ⟨rfl, .inr ⟨rfl, .inl (by decide +kernel)⟩⟩
theorem stale_hostReady : stale.hostReady := ⟨rfl, .inr ⟨rfl, .inl (by decide +kernel)⟩⟩
theorem ringed_hostReady : ringed.hostReady := ⟨rfl, .inr ⟨rfl, .inl (by decide +kernel)⟩⟩
theorem startup_hostReady : State.reset.hostReady := ⟨rfl, .inr ⟨rfl, .inr (by decide)⟩⟩

/-- The host's access is granted and being performed. -/
def granted : State := { idle with port := { idle.port with performing := some (.host poke) } }

theorem granted_hostReady : granted.hostReady := ⟨rfl, .inl ⟨poke, rfl⟩⟩

/-- The Shadow Store's invariant from the list of all slots that entries have. -/
theorem slotsWf_of_list (s : State) (l : List SlotNumber) (hl : (entryNumbers.flatMap fun n => (s.entry n).slots) = l)
    (h1 : ∀ n, (s.entry n).slots.length = (s.entry n).span.toNat) (h2 : l.Nodup)
    (h3 : ∀ k, (s.slot k).held = decide (k ∈ l)) (h4 : s.freeCount = s.freeSlots.length)
    (h5 : ∀ k, (s.slot k).lowerKnown = false ∧ (s.slot k).upperKnown = false) : s.slotsWf := by
  refine ⟨h1, hl ▸ h2, fun k => ?_, h4, fun n o _ _ => h5 _⟩
  rw [h3, decide_eq_true_iff, ← hl, List.mem_flatMap]
  exact ⟨fun ⟨n, _, h⟩ => ⟨n, h⟩, fun ⟨n, h⟩ => ⟨n, mem_entryNumbers n, h⟩⟩

theorem idle_slot (k : SlotNumber) : idle.slot k = ⟨0, false, false, false⟩ := by
  simp [State.slot, idle, State.reset, Slot.reset]

theorem placed_slot (e : Entry) (h : e.slots = [0, 1]) (k : SlotNumber) :
    (place 5 e idle).slot k = if k ∈ [0, 1] then ⟨0, false, false, true⟩ else ⟨0, false, false, false⟩ := by
  show (idle.claimSlots e.slots).slot k = _
  rw [slot_claimSlots, idle_slot, h]

theorem idle_slotsWf : idle.slotsWf := by
  refine slotsWf_of_list idle [] (by decide +kernel) (by decide +kernel) (by decide) (fun k => ?_) ?_ (fun k => ?_)
  · rw [idle_slot]; rfl
  · simp only [State.freeSlots, idle_slot]; decide +kernel
  · rw [idle_slot]; exact ⟨rfl, rfl⟩

theorem placed_slotsWf (e : Entry) (h : e.slots = [0, 1])
    (hl : (entryNumbers.flatMap fun n => ((place 5 e idle).entry n).slots) = [0, 1])
    (hs : ∀ n, ((place 5 e idle).entry n).slots.length = ((place 5 e idle).entry n).span.toNat) :
    (place 5 e idle).slotsWf := by
  refine slotsWf_of_list _ [0, 1] hl hs (by decide) (fun k => ?_) ?_ (fun k => ?_)
  · rw [placed_slot e h]; split <;> simp_all
  · rw [show (place 5 e idle).freeCount = 256 - e.slots.length from rfl, h]
    simp only [State.freeSlots, placed_slot e h]; decide +kernel
  · rw [placed_slot e h]; split <;> exact ⟨rfl, rfl⟩

theorem stale_slotsWf : stale.slotsWf := placed_slotsWf _ rfl (by decide +kernel) (by decide +kernel)
theorem watchingCommand_slotsWf : watchingCommand.slotsWf :=
  placed_slotsWf _ rfl (by decide +kernel) (by decide +kernel)

theorem ringed_slotsWf : ringed.slotsWf := idle_slotsWf

theorem witness_StepTakesFrontCommand :
    ({ idle with pending := [.portGrant, .tickEvent] } : State).pending = .portGrant :: [.tickEvent] ∧
      idle.pending = [] := by decide +kernel

/-- A host read of F201h held behind a processor access that is being performed. -/
def heldReading : State := { idle with port := { idle.port with
  performing := some (.internal .processor), hostWaiting := some (.read 0xF201), wait := true } }

theorem witness_PinResetTakesResetValues :
    granted.heldWrite = some poke ∧ granted.heldRead = none ∧ heldReading.heldRead = some 0xF201 ∧
      heldReading.heldWrite = none := by decide +kernel

theorem witness_HostWriteReachesMemory :
    idle.hostReady ∧ granted.hostReady ∧
      idle.hostWriteOf (.hostWrite 0xFFFFF Lanes.both 1) = some ⟨0xFFFFF, Lanes.both, 1⟩ ∧
      idle.hostWriteOf (.consume ⟨true, false⟩ 3) = some ⟨0x00002, ⟨true, false⟩, 3⟩ ∧
      granted.hostWriteOf (.restart 0 1) = some ⟨0x00000, Lanes.both, 0x040F⟩ :=
  ⟨idle_hostReady, granted_hostReady, by decide +kernel, by decide +kernel, by decide +kernel⟩

theorem witness_NoLaneWriteHasNoEffect : watched.hostReady ∧ State.reset.hostReady :=
  ⟨watched_hostReady, startup_hostReady⟩

theorem witness_UnmatchedWriteOnlyReachesMemory :
    watched.hostReady ∧ (0xF202 : Addr) ≠ watched.cb 0x000 ∧ (0xF202 : Addr) ≠ watched.cb 0x002 ∧
      ∀ n, (watched.entry n).holds 0xF202 = false :=
  ⟨watched_hostReady, by decide +kernel, by decide +kernel, by decide +kernel⟩

/-- The statements on one write: a write to a word of a STALE entry, and a full write to a watched COMMAND. -/
theorem witness_EventsOfOneWriteInOrder :
    (stale.hostReady ∧ stale.slotsWf ∧ (poke.lanes.lower || poke.lanes.upper) = true ∧ poke.addr ≠ stale.cb 0x000 ∧
      poke.addr ≠ stale.cb 0x002 ∧ (stale.entry 5).holds poke.addr = true) ∧
    watchingCommand.hostReady ∧ watchingCommand.slotsWf ∧
      (watchingCommand.entry 5).holds (watchingCommand.commandWrite 3 5 0).addr = true :=
  ⟨⟨stale_hostReady, stale_slotsWf, rfl, by decide +kernel, by decide +kernel, by decide +kernel⟩,
    watchingCommand_hostReady, watchingCommand_slotsWf, by decide +kernel⟩

theorem witness_WriteAtEntries :
    stale.hostReady ∧ stale.slotsWf ∧ (0xF200 : Addr) ≠ stale.cb 0x000 ∧ (0xF200 : Addr) ≠ stale.cb 0x002 ∧
      ((⟨true, false⟩ : Lanes).lower || (⟨true, false⟩ : Lanes).upper) = true ∧
      (stale.entry 5).holds 0xF200 = true ∧ (stale.entry 6).holds 0xF200 = false :=
  ⟨stale_hostReady, stale_slotsWf, by decide +kernel, by decide +kernel, rfl, by decide +kernel, by decide +kernel⟩

theorem witness_WriteAtShadows :
    watchingCommand.hostReady ∧ watchingCommand.slotsWf ∧ (watchingCommand.entry 5).holds 0x00001 = true ∧
      ∀ n, (watchingCommand.entry n).holds 0x00001 = true →
        (watchingCommand.entry n).slotAt ((watchingCommand.entry n).offsetOf 0x00001) ≠ 0 :=
  ⟨watchingCommand_hostReady, watchingCommand_slotsWf, by decide +kernel, by decide +kernel⟩

theorem witness_SensesJudgeSelectedBits :
    watcher.sense = .rise ∧ ({ watcher with sense := .fall } : Entry).sense = .fall ∧
      ({ watcher with sense := .either } : Entry).sense = .either ∧
      ({ watcher with sense := .enter } : Entry).sense = .enter ∧
      ({ watcher with sense := .leave } : Entry).sense = .leave ∧
      ({ watcher with sense := .touch } : Entry).sense = .touch := by decide

theorem witness_ConsumeAccepted :
    ringed.hostReady ∧ idle.hostReady ∧ idle.journal.length = 0 ∧ ringed.journal.length ≠ 0 ∧
      (5 : Word).toNat < 2 * ring.length ∧
      (ring.produce + 2 * ring.length - 5) % (2 * ring.length)
        ≤ (ring.produce + 2 * ring.length - ring.consume) % (2 * ring.length) :=
  ⟨ringed_hostReady, idle_hostReady, by decide +kernel, by decide +kernel, by decide, by decide⟩

theorem witness_ConsumeRejected :
    ringed.hostReady ∧ ringed.slotsWf ∧ ringed.journal.length ≠ 0 ∧ (⟨true, false⟩ : Lanes) ≠ ⟨true, true⟩ ∧
      2 * ring.length ≤ (8 : Word).toNat ∧
      (ring.produce + 2 * ring.length - ring.consume) % (2 * ring.length)
        < (ring.produce + 2 * ring.length - 6) % (2 * ring.length) :=
  ⟨ringed_hostReady, ringed_slotsWf, by decide +kernel, by decide, by decide, by decide⟩

theorem witness_ArrivalAtTheQueue :
    EventQueue.reset.depth < 32 ∧ fullQueue.depth = 32 ∧ fullQueue.list 2 ≠ [] ∧
      (∀ c : EventClass, (2 : EventClass).toNat < c.toNat → fullQueue.list c = []) ∧
      ({ sample with cls := 1 } : Event).cls.toNat < (2 : EventClass).toNat ∧
      ¬sample.cls.toNat < (2 : EventClass).toNat := by decide +kernel

theorem witness_HoldoffExpiryReportsMerge : merging.holdoffEnds 5 ∧ ¬watched.holdoffEnds 5 := by
  unfold State.holdoffEnds
  decide +kernel

/-- A heartbeat entry whose last missed period ends at the next tick. -/
def missing : State := place 5
  { watcher with deadline := 4, missLimit := 2, deadlineState := .running, deadlineRemaining := 1, missCount := 1 } idle

theorem witness_DeadlineExpiryCountsMiss : missing.deadlineEnds 5 ∧ ¬stale.deadlineEnds 5 := by
  unfold State.deadlineEnds
  decide +kernel

theorem witness_TickEventStepsEveryTimer :
    inReset.port.resetAsserted = true ∧ missing.port.resetAsserted = false := by decide +kernel

theorem witness_ClockPeriodAdvancesPhase :
    inReset.port.resetAsserted = true ∧ idle.port.resetAsserted = false ∧
      idle.timebase.phase.toNat + 1 < idle.timebase.divisor.toNat ∧
      ({ idle.timebase with phase := 24999 } : Timebase).divisor.toNat
        ≤ ({ idle.timebase with phase := 24999 } : Timebase).phase.toNat + 1 := by decide +kernel

/-- One clock period before a tick, that period at the front of the queue. -/
def nearTick : State := { idle with
  timebase := { idle.timebase with phase := 24998 }, pending := [.referenceClockPeriod, .referenceClockPeriod] }

theorem witness_PeriodsMakeTheTick :
    nearTick.port.resetAsserted = false ∧ nearTick.timebase.phase.toNat < nearTick.timebase.divisor.toNat ∧
      nearTick.pending = List.replicate 1 .referenceClockPeriod ++ [.referenceClockPeriod] ∧
      nearTick.timebase.phase.toNat + 1 < nearTick.timebase.divisor.toNat ∧
      nearTick.pending = List.replicate 2 .referenceClockPeriod ++ [] ∧
      nearTick.timebase.phase.toNat + 2 = nearTick.timebase.divisor.toNat := by decide +kernel

/-- The watcher with a scrub countdown of interval 1 and the cursor just past its words. -/
def scrubbing : State := { watched with
  scrubber := { interval := 1, countdown := 1, running := true, cursorEntry := 6, cursorOffset := 0, claim := none } }

/-- The scrub read of the watcher's last word outstanding. -/
def scrubClaimed : State := { watched with
  scrubber := { scrubbing.scrubber with claim := some ⟨5, 1, 0xF201, false⟩ }
  mem := Memory.writeWord [] 0xF201 0x00F0 }

theorem witness_ScrubExpiryClaimsNextWord :
    ¬idle.scrubEnds ∧ scrubbing.scrubEnds ∧ scrubbing.scrubber.claim = none ∧ scrubClaimed.scrubEnds ∧
    scrubClaimed.scrubber.claim.isSome = true ∧
    (5 : Index).toNat * 16 + (0 : BitVec 4).toNat = (6 * 16 + 0 + 1008) % 1024 ∧
    (scrubbing.entry 5).state = .armed ∧ (0 : BitVec 4).toNat < (scrubbing.entry 5).span.toNat ∧
    ∀ (m : Index) (k : BitVec 4), m ≠ 5 → ¬(((scrubbing.entry m).state = .armed ∨
      (scrubbing.entry m).state = .suspended) ∧ k.toNat < (scrubbing.entry m).span.toNat) := by
  unfold State.scrubEnds
  decide +kernel

theorem witness_ScrubReadComparesShadow :
    scrubClaimed.internalReady .scrubber ∧ scrubClaimed.scrubber.claim = some ⟨5, 1, 0xF201, false⟩ ∧
      Memory.readWord scrubClaimed.mem 0xF201 ≠ scrubClaimed.shadow 5 1 ∧
      Memory.readWord watched.mem 0xF201 = watched.shadow 5 1 :=
  ⟨(by decide +kernel : scrubClaimed.grant.port.performing = some (.internal .scrubber)), rfl, by decide +kernel,
    by decide +kernel⟩

/-- A READY writer with an unreported loss in class 3. -/
def losing : State := { ready with queue := { EventQueue.reset with unreported := (Vector.replicate 4 0).set 3 1 } }

/-- A READY writer with queued events of class 2. -/
def queued : State := { ready with queue := fullQueue }

/-- The same queue after a newcomer of class 1 met the take and displaced an event. -/
def met : State := queued.meetTake { queued with queue := fullQueue.arrive { sample with cls := 1 } }

theorem witness_TakeMeetsArrival :
    (queued.journal.standsReady = true ∧ queued.queue.hasUnreported = false ∧ queued.queue.depth = 32) ∧
    (ready.journal.standsReady = true ∧ ready.queue.depth = 0) ∧
    (met.journal.state = .ready ∧ met.journal.install = none ∧ met.queue.takeMet = true ∧ met.queue.unreportedOf 2 ≠ 0 ∧
      met.queue.list 1 = [{ sample with cls := 1 }] ∧ met.queue.list 0 = []) := by decide +kernel

theorem witness_BeginRecordTakesLossesFirst :
    ¬(ringed.journal.state = .ready ∧ ringed.journal.install = none) ∧
    (losing.journal.state = .ready ∧ losing.journal.install = none ∧ losing.queue.takeMet = false ∧
      ∃ c, losing.queue.unreportedOf c ≠ 0) ∧
    (ready.journal.state = .ready ∧ (∀ c, ready.queue.unreportedOf c = 0) ∧ ∀ c, ready.queue.list c = []) ∧
    (queued.journal.state = .ready ∧ queued.journal.install = none ∧ (∀ c, queued.queue.unreportedOf c = 0) ∧
      queued.queue.list 2 = sample :: List.replicate 31 sample ∧
      ∀ c : EventClass, c.toNat < (2 : EventClass).toNat → queued.queue.list c = []) := by decide +kernel

/-- A record in flight with its header still to be written, and one with all its words written. -/
def writing (words : Nat) (content : RecordContent) : State :=
  { ready with journal := { ready.journal with record := some ⟨content, 5, words⟩ } }

theorem writing_internalReady (words : Nat) (content : RecordContent) :
    (writing words content).internalReady .writer := by
  have h : (writing words content).claims .writer = true := rfl
  have h' : (writing words content).claims .processor = false := rfl
  simp [State.internalReady, State.grant, State.rotationChoice, State.grantInternal, Claimant.next,
    show (writing words content).port = Port.reset 0 false from rfl, Port.reset, h, h']

theorem witness_RecordWordsInOrder :
    (writing 3 (.event sample)).internalReady .writer ∧
      (writing 3 (.event sample)).journal.record = some ⟨.event sample, 5, 3⟩ ∧
      (3 : Nat) < (if (writing 3 (.event sample)).journal.format = .full then 8 else 4) :=
  ⟨writing_internalReady _ _, rfl, by decide +kernel⟩

theorem witness_PublicationAdvancesProduce :
    (writing 4 (.event sample)).internalReady .writer ∧ (writing 4 (.event sample)).journal.length ≠ 0 ∧
      (writing 4 (.event sample)).journal.record = some ⟨.event sample, 5, 4⟩ ∧
      ¬(4 : Nat) < (if (writing 4 (.event sample)).journal.format = .full then 8 else 4) :=
  ⟨writing_internalReady _ _, by decide +kernel, rfl, by decide +kernel⟩

/-- An install request of a FULL ring of 4 records, taken or not, at a READY writer. -/
def installing (taken : Bool) : State := { ready with
  journal := { ready.journal with install := some ⟨0x40000, 4, .full, 4, taken⟩ } }

theorem witness_InstallRequestIsTaken :
    (installing false).journal.install = some ⟨0x40000, 4, .full, 4, false⟩ ∧ (installing false).journal.record = none ∧
      (installing true).journal.install = some ⟨0x40000, 4, .full, 4, true⟩ ∧
      ready.journal.install = none ∧ (writing 1 (.event sample)).journal.record ≠ none := by decide +kernel

/-- The request is taken or not yet taken; there is none, or the writer is WRITING. -/
theorem witness_InstallationStartsRing :
    (∀ taken, (installing taken).requestTaken.internalReady .writer ∧ (installing taken).journal.wf ∧
      (installing taken).journal.record = none ∧
      (installing taken).journal.install = some ⟨0x40000, 4, .full, 4, taken⟩) ∧
    ready.journal.install = none ∧ (writing 1 (.event sample)).journal.record ≠ none := by
  refine ⟨fun taken => ⟨?_, ⟨.inr ?_, ?_, ?_, ?_, ?_, ?_, ?_⟩, rfl, rfl⟩, rfl, by decide +kernel⟩
  · unfold State.internalReady
    decide +revert +kernel
  iterate 4 decide +revert +kernel
  · intro r h
    cases h.symm.trans (rfl : (installing taken).journal.record = none)
  · rintro r h
    obtain rfl : r = ⟨0x40000, 4, .full, 4, taken⟩ := by injection h.symm
    exact ⟨.inr (by decide +revert +kernel), fun _ => rfl⟩
  · decide +revert +kernel

theorem witness_CommandsBeginAtIdle :
    idle.hostReady ∧ idle.proc.state = .idle ∧ 11 ≤ (14 : Opcode).toNat ∧ (14 : Opcode).toNat ≤ 14 :=
  ⟨idle_hostReady, rfl, by decide, by decide⟩

/-- The watcher SUSPENDED. -/
def suspended : State := place 5 { watcher with state := .suspended, deadline := 4, missLimit := 2 } idle

theorem suspended_hostReady : suspended.hostReady := ⟨rfl, .inr ⟨rfl, .inl (by decide +kernel)⟩⟩

/-- Each state of an entry that DISARM, SUSPEND, RESUME and FLUSH tell apart. -/
theorem witness_EntryRequests :
    merging.hostReady ∧ merging.proc.state = .idle ∧ suspended.hostReady ∧ suspended.proc.state = .idle ∧
      ((merging.commandJudged 2 5 0).entry 5).state = .armed ∧ ((merging.commandJudged 2 6 0).entry 6).state = .free ∧
      ((merging.commandJudged 3 5 0).entry 5).state = .armed ∧ ((merging.commandJudged 3 6 0).entry 6).state = .free ∧
      ((suspended.commandJudged 3 5 0).entry 5).state = .suspended ∧
      ((merging.commandJudged 4 5 0).entry 5).state = .armed ∧ ((merging.commandJudged 4 6 0).entry 6).state = .free ∧
      ((suspended.commandJudged 4 5 0).entry 5).state = .suspended ∧
      ((merging.commandJudged 7 0 0).entry 5).merge.count ≠ 0 :=
  ⟨merging_hostReady, rfl, suspended_hostReady, rfl, by decide +kernel, by decide +kernel, by decide +kernel,
    by decide +kernel, by decide +kernel, by decide +kernel, by decide +kernel, by decide +kernel, by decide +kernel⟩

theorem witness_SnapshotCapturesPart : watched.hostReady ∧ watched.proc.state = .idle := ⟨watched_hostReady, rfl⟩

theorem witness_RestartResetsThePart : State.reset.hostReady ∧ watched.hostReady :=
  ⟨startup_hostReady, watched_hostReady⟩

theorem witness_BusyRefusesCommands :
    State.reset.hostReady ∧ State.reset.proc.state ≠ .idle ∧ commandFields (.badop 14 63 63) = some ⟨14, 63, 63⟩ ∧
      commandFields (.load 0 0) = some ⟨1, 0, 0⟩ :=
  ⟨startup_hostReady, by decide +kernel, rfl, rfl⟩

theorem witness_PartialAndZeroCommands :
    idle.hostReady ∧ (0xFFF0 : Word).toNat % 16 = 0 := ⟨idle_hostReady, by decide⟩

theorem witness_RefusalIsClaimedFirst :
    State.reset.proc.claim ≠ none ∧ idle.proc.claim = none ∧
      (({ idle.proc with pendingRefusal := some 0 } : Processor).pendingRefusal ≠ none ∧
        StartupWrite.refusal ∉ idle.proc.startupWrites) ∧
      idle.proc.pendingRefusal = none ∧ ({ idle.proc with state := .filling } : Processor).state = .filling := by
  decide +kernel

/-- The processor READING for a command, with values already read and the arbiter free. -/
def reading (opcode : Opcode) (operand : Index) (words : List Word) (s : State) : State :=
  working .reading ⟨opcode, operand, 1⟩ words s

theorem reading_internalReady (opcode : Opcode) (operand : Index) (words : List Word) :
    (reading opcode operand words idle).internalReady .processor := by
  have h : (reading opcode operand words idle).claims .processor = true := rfl
  simp [State.internalReady, State.grant, State.rotationChoice, State.grantInternal,
    show (reading opcode operand words idle).port = Port.reset 0 false from rfl, Port.reset, h]

theorem witness_CommandReadKeepsWord :
    (reading 10 0 [] idle).readsNext ⟨10, 0, 1⟩ [] 0x008 [0x009] ∧ [0x009] ≠ ([] : List Nat) :=
  ⟨⟨reading_internalReady _ _ _, rfl, rfl, rfl, by decide, rfl⟩, by decide⟩

/-- The offsets before the last one that a LOAD or a RETUNE of entry 6 reads. -/
def firstSeven : List Nat := [0x130, 0x131, 0x132, 0x133, 0x134, 0x135, 0x136]

theorem witness_LoadChecksThenPrimes :
    (reading 1 6 [0xF300, 0x0010, 1, 0, 0, 0, 0] idle).readsNext ⟨1, 6, 1⟩ firstSeven 0x137 [] ∧
      (reading 1 6 [0xF300, 0x0010, 1, 0, 0, 0, 0] idle).slotsWf :=
  ⟨⟨reading_internalReady _ _ _, rfl, rfl, rfl, by decide, rfl⟩, idle_slotsWf⟩

theorem witness_LoadChecks_pass :
    let s := reading 1 6 [0xFFFF, 0x001F, 1, 0, 0, 0, 0] idle
    (s.entry 6).state = .free ∧ (s.descriptorRead 0x137).illegal = false ∧
      (s.descriptorRead 0x137).span.toNat ≤ s.freeCount ∧ s.forbidden 0xFFFFF 1 = false := by decide +kernel

theorem witness_RetuneReplacesRule :
    (reading 5 6 [0xF300, 0x0010, 1, 0, 0, 0, 0] idle).readsNext ⟨5, 6, 1⟩ firstSeven 0x137 [] :=
  ⟨reading_internalReady _ _ _, rfl, rfl, rfl, by decide, rfl⟩

theorem witness_RetuneChecks_pass :
    let s := reading 5 5 [0xF200, 0x0220, 0x00F0, 0, 0, 0, 0] watched
    (s.entry 5).state = .armed ∧ (s.descriptorRead 0x12F).illegal = false ∧
      (s.entry 5).base = (s.descriptorRead 0x12F).base ∧ (s.entry 5).span = (s.descriptorRead 0x12F).span := by
  decide +kernel

theorem witness_MarkCreatesEvent : (reading 8 63 [] idle).readsNext ⟨8, 63, 1⟩ [] 0x001 [] :=
  ⟨reading_internalReady _ _ _, rfl, rfl, rfl, by decide, rfl⟩

theorem witness_JournalChecksThenWaits :
    (reading 9 0 [0, 0x0103, 4] idle).readsNext ⟨9, 0, 1⟩ [0x004, 0x005, 0x006] 0x007 [] ∧
      ((reading 9 0 [0, 0x0103, 4] idle).afterRead 0x007).proc.readWords = [0, 0x0103, 4, 0] ∧
      (State.journalCheck { (reading 9 0 [] idle) with mem := [] } [0, 0x0103, 4, 4]).isNone = true :=
  ⟨⟨reading_internalReady _ _ _, rfl, rfl, rfl, by decide, rfl⟩, by decide +kernel, by decide +kernel⟩

theorem witness_TimebaseHandsDivisor :
    (reading 10 0 [65535] idle).readsNext ⟨10, 0, 1⟩ [0x008] 0x009 [] ∧
      ((reading 10 0 [65535] idle).afterRead 0x009).proc.readWords = [65535, 0] :=
  ⟨⟨reading_internalReady _ _ _, rfl, rfl, rfl, by decide, rfl⟩, by decide +kernel⟩

/-- Entry 5 PRIMING with two words and one of its reads still to come. -/
def filling (progress : BitVec 5) : State :=
  working .filling ⟨1, 5, 1⟩ [] (place 5 { watcher with state := .priming, primeProgress := progress } idle)

theorem witness_PrimeReadCompletesSlot :
    (filling 1).internalReady .processor ∧ (filling 1).proc.claim = some .work ∧ (filling 1).proc.slot = some ⟨1, 5, 1⟩ ∧
      ((filling 1).entry 5).state = .priming ∧ ((filling 1).entry 5).wf ∧
      ((filling 1).entry 5).primeProgress.toNat + 1 = ((filling 1).entry 5).span.toNat ∧
      ((filling 0).entry 5).primeProgress.toNat + 1 < ((filling 0).entry 5).span.toNat := by
  refine ⟨(by decide +kernel : (filling 1).grant.port.performing = some (.internal .processor)), rfl, rfl,
    by decide +kernel, ?_, by decide +kernel, by decide +kernel⟩
  unfold Entry.wf
  decide +kernel

/-- The processor PUBLISHING, its slot holding a SNAPSHOT. -/
def publishing (capture : List (Nat × Word)) : State :=
  { idle with proc := { idle.proc with
      state := .publishing, slot := some ⟨6, 5, 1⟩, result := some .done, capture := capture, claim := some .work } }

theorem publishing_internalReady (capture : List (Nat × Word)) : (publishing capture).internalReady .processor := by
  have h : (publishing capture).claims .processor = true := rfl
  simp [State.internalReady, State.grant, State.rotationChoice, State.grantInternal,
    show (publishing capture).port = Port.reset 0 false from rfl, Port.reset, h]

theorem witness_SnapshotWritesCapture :
    (publishing [(0x05F, 7)]).internalReady .processor ∧ (publishing [(0x05F, 7)]).proc.capture = [(0x05F, 7)] :=
  ⟨publishing_internalReady _, rfl⟩

theorem witness_CompletionEndsCommand :
    (publishing []).internalReady .processor ∧ (publishing []).proc.claim = some .work ∧
      (publishing []).proc.state = .publishing ∧ (publishing []).proc.capture = [] ∧
      (publishing []).proc.slot = some ⟨6, 5, 1⟩ ∧ (publishing []).proc.result = some .done :=
  ⟨publishing_internalReady _, rfl, rfl, rfl, rfl, rfl⟩

theorem witness_RefusalWriteEmptiesPending :
    let s : State := { idle with proc := { idle.proc with pendingRefusal := some 0x0823, claim := some .refusal } }
    s.internalReady .processor ∧ s.proc.claim = some .refusal ∧ s.proc.pendingRefusal = some 0x0823 := by
  refine ⟨?_, rfl, rfl⟩
  unfold State.internalReady
  decide +kernel

/-- A RESTART's start-up with its four writes ahead. -/
def restarted : State := after (.restart 0 9) (working .reading ⟨1, 5, 7⟩ [] idle)

theorem witness_StartupWritesInOrder :
    (restarted.internalReady .processor ∧ restarted.proc.claim = some .work ∧ restarted.proc.state = .starting ∧
      restarted.proc.startupWrites = [.aborted, .presence, .produce, .restartDone] ∧ restarted.proc.startupWf) ∧
    State.reset.internalReady .processor ∧ State.reset.proc.startupWrites = [.zeroCompletion, .refusal, .produce, .presence] ∧
      State.reset.proc.startupWf := by
  refine ⟨⟨?_, ?_, ?_, ?_, ?_⟩, ?_, ?_, ?_⟩ <;>
    first
    | decide +kernel
    | (unfold State.internalReady; decide +kernel)
    | (unfold Processor.startupWf; decide +kernel)

/-- A host write waiting behind a processor access that is being performed, and one behind a claim with g at 8. -/
def busyPort : State := { State.reset with port := { State.reset.port with performing := some (.internal .processor) } }
def guarded : State := { State.reset with port := { State.reset.port with guard := 8 } }

theorem witness_ArbiterGrantsByTable :
    idle.port.guard ≤ 8 ∧ busyPort.port.performing ≠ none ∧ guarded.port.guard = 8 ∧ guarded.claims .processor = true ∧
      guarded.port.pointer = .processor ∧ State.reset.port.guard < 8 ∧
      ({ guarded with port := { guarded.port with hostWaiting := some (.write poke), wait := true } } : State).port.hostWaiting
        = some (.write poke) := by decide +kernel

theorem witness_HeldAccessWaits :
    inReset.port.resetAsserted = true ∧ granted.hostInProgress = true ∧
      (busyPort.hostHeld ∧ busyPort.hostInProgress = false) ∧ guarded.hostHeld ∧
      inReset.hostWriteOf (.restart 0 1) = some ⟨0x00000, Lanes.both, 0x040F⟩ ∧
      guarded.hostWriteOf (.consume Lanes.both 3) = some ⟨0x00002, Lanes.both, 3⟩ ∧
      idle.hostInProgress = false ∧ idle.port.performing = none ∧ idle.internalWaits = false :=
  ⟨rfl, rfl, ⟨⟨rfl, by decide, .inl ⟨.processor, rfl⟩⟩, rfl⟩, ⟨rfl, by decide, .inr ⟨rfl, by decide +kernel, rfl⟩⟩,
    by decide +kernel, by decide +kernel, rfl, rfl, by decide +kernel⟩

/-- Rows whose claimant is ready with another access: no such row's access is presented. -/
theorem witness_UngrantedAccessWaits_not_presented :
    ((publishing [(0x05F, 7)]).internalReady .processor ∧ ¬(publishing [(0x05F, 7)]).presentsAccess .completionWrite ∧
      ¬(publishing [(0x05F, 7)]).presentsAccess .refusalWrite) ∧
    ((reading 8 0 [] idle).internalReady .processor ∧ ¬(reading 8 0 [] idle).presentsAccess .completionWrite ∧
      ¬(reading 8 0 [] idle).presentsAccess .primeRead ∧ ¬(reading 8 0 [] idle).presentsAccess .startupWrite) ∧
    ((writing 3 (.event sample)).internalReady .writer ∧ ¬(writing 3 (.event sample)).presentsAccess .publication ∧
      ¬(writing 3 (.event sample)).presentsAccess .installation) ∧
    (writing 4 (.event sample)).internalReady .writer ∧ ¬(writing 4 (.event sample)).presentsAccess .recordWordWrite := by
  refine ⟨⟨publishing_internalReady _, ?_⟩, ⟨reading_internalReady _ _ _, ?_⟩, ⟨writing_internalReady _ _, ?_⟩,
    writing_internalReady _ _, ?_⟩ <;>
    simp [State.presentsAccess, publishing, reading, working, writing, ready, ring, idle, recordWords]

/-- Presented accesses that the port does not perform: a host write is being performed. -/
theorem witness_UngrantedAccessWaits_presented :
    (∀ who, ¬granted.internalReady who) ∧
    (let s := { publishing [] with port := granted.port }
     s.presentsAccess .completionWrite ∧ ¬s.internalReady .processor) ∧
    (let s := { installing false with port := granted.port }
     s.presentsAccess .installation ∧ ¬s.requestTaken.internalReady .writer) := by
  refine ⟨fun who => ?_, ⟨⟨⟨rfl, rfl⟩, rfl⟩, ?_⟩, ⟨rfl, nofun⟩, ?_⟩ <;>
    · unfold State.internalReady
      simp [State.grant, granted, State.requestTaken]

/-- The invariants that steps keep hold together in a state with an entry, a scrub claim and a running countdown. -/
theorem witness_StepsKeepTimersAndQueue :
    scrubClaimed.timersWf ∧ scrubClaimed.queue.wf ∧ scrubClaimed.scrubClaimWf ∧ met.queue.wf := by
  refine ⟨?_, ?_, fun c h _ => ?_, ?_⟩
  · unfold State.timersWf Timebase.wf Scrubber.wf; decide +kernel
  · unfold EventQueue.wf; decide +kernel
  · obtain rfl : (⟨5, 1, 0xF201, false⟩ : ScrubClaim) = c := by injection h
    decide +kernel
  · unfold EventQueue.wf; decide +kernel

end Sys2Proof.Tests
end

section
/-! PROOFS. The acts a step is made of, and the principle that what every act keeps, every step keeps. -/

namespace Sys2Proof.Machine

/-- One act of the part. A step is a short sequence of these: the port's moves (a presentation, a grant, a forwarded
access, the memory becoming free), then at most one access taken or one event of the clock, each with the condition
under which its row has an effect. -/
inductive Act : State → State → Prop
  | dequeue (s : State) (rest : List Instr) : Act s { s with pending := rest }
  | store (s : State) (a : Addr) (lanes : Lanes) (data : Word) :
    Act s { s with mem := Memory.writeLanes s.mem a lanes data }
  | readOut (s : State) (a : Addr) : Act s { s with port := { s.port with readData := s.readWord a } }
  | present (s : State) (access : HostAccess) (hr : s.port.resetAsserted = false) :
    Act s { s with port := { s.port with hostWaiting := some access, wait := true } }
  | grant (s : State) : Act s s.grant
  | freePort (s : State) : Act s s.freePort
  | pinReset (s : State) : Act s (s.pinResetValues true)
  | release (s : State) (cbsel : BitVec 2) : Act s ((s.pinResetValues false).setProc (Processor.reset cbsel))
  | hostWrite (s : State) (w : HostWrite) : Act s (s.hostWriteTaken w)
  | commandRead (s : State) (c : CommandSlot) (h : s.proc.commandReadClaim = some c) : Act s (s.commandReadTaken c)
  | primeRead (s : State) (n : Index) (h : s.primeReadClaim = some n) : Act s (s.primeReadTaken n)
  | snapshotWord (s : State) (word : Nat × Word) (rest : List (Nat × Word)) (h : s.proc.publishClaim = true)
    (hc : s.proc.capture = word :: rest) : Act s (s.snapshotWordTaken word rest)
  | completion (s : State) (h : s.proc.publishClaim = true) (hc : s.proc.capture = []) : Act s s.completionTaken
  | refusal (s : State) (h : s.proc.claim = some .refusal) : Act s s.refusalTaken
  | startup (s : State) (w : StartupWrite) (rest : List StartupWrite) (hc : s.proc.claim = some .work)
    (hs : s.proc.state = .starting) (hw : s.proc.startupWrites = w :: rest) : Act s (s.startupWriteTaken w rest)
  | beginRecord (s : State) (h : s.mayBegin = true) : Act s s.begin
  | recordWord (s : State) (r : RecordInFlight) (h : s.journal.record = some r)
    (hw : r.wordsTaken < recordWords s.journal.format) : Act s (s.writeRecordWord r)
  | publication (s : State) (r : RecordInFlight) (h : s.journal.record = some r)
    (hw : recordWords s.journal.format ≤ r.wordsTaken) : Act s (s.publishRecord r)
  | installRequest (s : State) : Act s s.takeInstallRequest
  | installation (s : State) (r : InstallRequest) (hr : s.journal.record = none) (h : s.journal.install = some r) :
    Act s (s.install r)
  | tick (s : State) (h : s.port.resetAsserted = false) : Act s s.makeTick
  | phase (s : State) (h : s.timebase.phase.toNat + 1 < s.timebase.divisor.toNat) :
    Act s { s with timebase := { s.timebase with phase := s.timebase.phase + 1 } }
  | scrubRead (s : State) (c : ScrubClaim) (h : s.scrubber.claim = some c) : Act s (s.scrubReadTaken c)

/-- A sequence of acts. -/
abbrev Acts : State → State → Prop := Relation.ReflTransGen Act

theorem Act.acts {s t : State} (h : Act s t) : Acts s t := .single h

/-- An internal access that is taken is an act in the state after the grant, with the memory free. -/
theorem takeInternal_acts (s : State) (c : Claimant) (f : State → State) (h : Act s.grant.freePort (f s.grant.freePort)) :
    Acts s (s.takeInternal c f) := by
  simp only [State.takeInternal]
  split
  · exact ((Act.grant s).acts.tail (.freePort _)).tail h
  · exact (Act.grant s).acts

theorem forward_acts (s : State) (access : HostAccess) : Acts s (s.forward access) := by
  cases access with
  | read a => exact (Act.readOut s a).acts
  | write w => exact (Act.store s w.addr w.lanes w.data).acts

theorem forwardHeld_acts (s : State) : Acts s s.forwardHeld := by
  simp only [State.forwardHeld]
  repeat' split
  · exact forward_acts s _
  · exact forward_acts s _
  · exact .refl

theorem present_acts (s : State) (access : HostAccess) (hr : s.port.resetAsserted = false) :
    Acts s (s.present access) :=
  (Act.present s access hr).acts.tail (.grant _)

theorem takeHostWrite_acts (s : State) (w : HostWrite) : Acts s (s.takeHostWrite w) := by
  unfold State.takeHostWrite
  split
  · exact forward_acts s _
  next hr =>
    have hr : s.port.resetAsserted = false := by simpa using hr
    split
    · exact (Act.freePort s).acts.tail (.hostWrite _ w)
    · dsimp only
      split
      · exact ((present_acts s _ hr).tail (.freePort _)).tail (.hostWrite _ _)
      · exact present_acts s _ hr

theorem tickEvent_acts (s : State) : Acts s s.tickEvent := by
  unfold State.tickEvent
  split
  · exact .refl
  next hr => exact (Act.tick s (by simpa using hr)).acts

theorem clockPeriod_acts (s : State) : Acts s s.clockPeriod := by
  unfold State.clockPeriod
  repeat' split
  · exact .refl
  next h => exact (Act.phase s h).acts
  next hr _ => exact (Act.tick s (by simpa using hr)).acts

theorem commandRead_acts {s t : State} (h : execCommandRead s = .next t) : Acts s t := by
  unfold execCommandRead at h
  split at h <;> cases h
  next c hc => exact takeInternal_acts s _ _ (.commandRead _ c (by simpa using hc))
  next => exact .refl

theorem entry_of_entries {s t : State} (h : t.entries = s.entries) (n : Index) : t.entry n = s.entry n := by
  simp only [State.entry, h]

theorem slot_of_slots {s t : State} (h : t.slots = s.slots) (k : SlotNumber) : t.slot k = s.slot k := by
  simp only [State.slot, h]

theorem primeReadClaim_taking (s : State) : s.grant.freePort.primeReadClaim = s.primeReadClaim := by
  simp only [State.primeReadClaim, State.freePort_proc, State.grant_proc,
    entry_of_entries (s.grant.freePort_entries.trans s.grant_entries)]

theorem primeRead_acts {s t : State} (h : execPrimeRead s = .next t) : Acts s t := by
  unfold execPrimeRead at h
  split at h <;> cases h
  next n hn => exact takeInternal_acts s _ _ (.primeRead _ n ((primeReadClaim_taking s).trans hn))
  next => exact .refl

theorem snapshotWrite_acts {s t : State} (h : execSnapshotWrite s = .next t) : Acts s t := by
  unfold execSnapshotWrite at h
  split at h
  next hp =>
    split at h <;> cases h
    next word rest hc => exact takeInternal_acts s _ _ (.snapshotWord _ word rest (by simpa using hp) (by simpa using hc))
    next => exact .refl
  next => cases h; exact .refl

theorem completionWrite_acts {s t : State} (h : execCompletionWrite s = .next t) : Acts s t := by
  unfold execCompletionWrite at h
  split at h <;> cases h
  next hp =>
    obtain ⟨hp, hc⟩ := Bool.and_eq_true_iff.1 hp
    exact takeInternal_acts s _ _ (.completion _ (by simpa using hp) (by simpa using hc))
  next => exact .refl

theorem refusalWrite_acts {s t : State} (h : execRefusalWrite s = .next t) : Acts s t := by
  unfold execRefusalWrite at h
  split at h <;> cases h
  next hc => exact takeInternal_acts s _ _ (.refusal _ (by simpa using hc))
  next => exact .refl

theorem startupWrite_acts {s t : State} (h : execStartupWrite s = .next t) : Acts s t := by
  unfold execStartupWrite at h
  split at h
  next hp =>
    split at h <;> cases h
    next w rest hw =>
      exact takeInternal_acts s _ _ (.startup _ w rest (by simpa using hp.1) (by simpa using hp.2) (by simpa using hw))
    next => exact .refl
  next => cases h; exact .refl

theorem beginRecord_acts {s t : State} (h : execBeginRecord s = .next t) : Acts s t := by
  cases h
  split
  next hb => exact (Act.beginRecord s hb).acts
  next => exact .refl

theorem recordWordWrite_acts {s t : State} (h : execRecordWordWrite s = .next t) : Acts s t := by
  unfold execRecordWordWrite at h
  split at h
  next r hr =>
    split at h <;> cases h
    next hw => exact takeInternal_acts s _ _ (.recordWord _ r (by simpa using hr) (by simpa using hw))
    next => exact .refl
  next => cases h; exact .refl

theorem publication_acts {s t : State} (h : execPublication s = .next t) : Acts s t := by
  unfold execPublication at h
  split at h
  next r hr =>
    split at h <;> cases h
    next => exact .refl
    next hw => exact takeInternal_acts s _ _ (.publication _ r (by simpa using hr) (by simpa using hw))
  next => cases h; exact .refl

theorem installation_acts {s t : State} (h : execInstallation s = .next t) : Acts s t := by
  unfold execInstallation at h
  dsimp only at h
  split at h <;> cases h
  next r hr hi =>
    exact (Act.installRequest s).acts.trans
      (takeInternal_acts _ _ _ (.installation _ r (by simpa using hr) (by simpa using hi)))
  next => exact .refl

theorem scrubRead_acts {s t : State} (h : execScrubRead s = .next t) : Acts s t := by
  unfold execScrubRead at h
  split at h <;> cases h
  next c hc => exact takeInternal_acts s _ _ (.scrubRead _ c (by simpa using hc))
  next => exact .refl

/-- An expiry's row is the tick event of that expiry, or nothing (log 7). -/
theorem tickEvent_if_acts (s : State) (b : Bool) : Acts s (if b then s.tickEvent else s) := by
  cases b
  · exact .refl
  · exact tickEvent_acts s

/-- Every command is a sequence of acts. -/
theorem exec_acts {c : Instr} {s t : State} (h : exec c s = .next t) : Acts s t := by
  cases c with
  | pinReset => cases h; exact (forwardHeld_acts s).tail (.pinReset _)
  | resetRelease b1 b0 => cases h; exact (forwardHeld_acts s).tail (.release _ _)
  | commandRead => exact commandRead_acts h
  | primeRead => exact primeRead_acts h
  | scrubRead => exact scrubRead_acts h
  | snapshotWrite => exact snapshotWrite_acts h
  | completionWrite => exact completionWrite_acts h
  | refusalWrite => exact refusalWrite_acts h
  | startupWrite => exact startupWrite_acts h
  | beginRecord => exact beginRecord_acts h
  | recordWordWrite => exact recordWordWrite_acts h
  | publication => exact publication_acts h
  | installRequestTaken => cases h; exact (Act.installRequest s).acts
  | installation => exact installation_acts h
  | portGrant => cases h; exact (Act.grant s).acts
  | tickEvent => cases h; exact tickEvent_acts s
  | holdoffExpiry n => cases h; exact tickEvent_if_acts s _
  | deadlineExpiry n => cases h; exact tickEvent_if_acts s _
  | scrubExpiry => cases h; exact tickEvent_if_acts s _
  | referenceClockPeriod => cases h; exact clockPeriod_acts s
  | memorySideAgentWrite a data => cases h; exact (Act.store s a Lanes.both data).acts
  | hostAccessPresented access =>
    cases h
    repeat' split
    · exact forward_acts s _
    · exact .refl
    next hr _ => exact present_acts s _ (by simpa using hr)
  | hostWrite | consume | load | disarm | suspend | resume | retune | snapshot | flush | mark | journal | timebase
  | badop | restart => cases h; exact takeHostWrite_acts s _

/-- Every step is a sequence of acts. -/
theorem step_acts {s t : State} (h : step s = .next t) : Acts s t := by
  unfold step at h
  split at h
  · cases h; exact .refl
  · exact (Act.dequeue s _).acts.trans (exec_acts h)

/-- What every act keeps, every step keeps. -/
theorem step_keeps {P : State → Prop} (hP : ∀ s t, Act s t → P s → P t) {s t : State} (h : step s = .next t) (hs : P s) :
    P t := by
  have hacts := step_acts h
  clear h
  induction hacts with
  | refl => exact hs
  | tail _ hact ih => exact hP _ _ hact ih

end Sys2Proof.Machine
end

section
/-! PROOFS. What each operation on one entry does, as one write of the entry and the events that arrive. -/

namespace Sys2Proof.Machine

/-! ## Events that arrive after one another -/

/-- A sequence of events is handed to the queue (R70, R71). -/
def State.emitAll (s : State) (events : List Event) : State := { s with queue := s.queue.arriveAll events }

@[simp] theorem emitAll_nil (s : State) : s.emitAll [] = s := rfl

@[simp] theorem emitAll_emitAll (s : State) (es fs : List Event) : (s.emitAll es).emitAll fs = s.emitAll (es ++ fs) := by
  simp [State.emitAll, EventQueue.arriveAll]

@[simp] theorem setEntry_emitAll (s : State) (es : List Event) (n : Index) (e : Entry) :
    (s.emitAll es).setEntry n e = (s.setEntry n e).emitAll es := rfl

@[simp] theorem entry_emitAll (s : State) (es : List Event) (n : Index) : (s.emitAll es).entry n = s.entry n := rfl

@[simp] theorem slot_emitAll (s : State) (es : List Event) (k : SlotNumber) : (s.emitAll es).slot k = s.slot k := rfl

@[simp] theorem timebase_emitAll (s : State) (es : List Event) : (s.emitAll es).timebase = s.timebase := rfl

@[simp] theorem entry_setSlot (s : State) (k : SlotNumber) (v : Slot) (n : Index) : (s.setSlot k v).entry n = s.entry n :=
  rfl

@[simp] theorem slot_setEntry (s : State) (n : Index) (e : Entry) (k : SlotNumber) : (s.setEntry n e).slot k = s.slot k :=
  rfl

@[simp] theorem setEntry_entry (s : State) (n : Index) : s.setEntry n (s.entry n) = s := by
  simp [State.setEntry, State.entry]

/-- An entry's event is its count one higher and one arrival (R2, R68). -/
theorem emitFor_eq (s : State) (n : Index) (kind : EventKind) (offset : BitVec 4) (old new : Word) (count : BitVec 16) :
    s.emitFor n kind offset old new count =
      (s.setEntry n { s.entry n with eventCount := (s.entry n).eventCount + 1 }).emitAll
        [{ kind := kind, cls := (s.entry n).cls, index := n, offset := offset, old := old, new := new,
           tag := (s.entry n).tag, count := count, time := s.timebase.tick }] := rfl

/-! ## Merges -/

/-- A reported merge: the count one higher and the record cleared (R45). -/
def Entry.reported (e : Entry) : Entry := { e with eventCount := e.eventCount + 1, merge := .clear }

/-- An entry after a flush of its merge (R47 to R50). -/
def Entry.flushed (e : Entry) : Entry := if e.merge.count = 0 then e else e.reported

/-- An entry after a flush to QUIET (R48 to R50). -/
def Entry.flushedQuiet (e : Entry) : Entry :=
  { e.flushed with merge := .clear, holdoffState := .quiet, holdoffRemaining := 0 }

/-- The events of a flush of entry n's merge. -/
def State.flushEvents (s : State) (n : Index) : List Event :=
  if (s.entry n).merge.count = 0 then [] else [s.mergedEvent n s.timebase.tick]

theorem reportMerge_eq (s : State) (n : Index) :
    s.reportMerge n = (s.setEntry n (s.entry n).reported).emitAll [s.mergedEvent n s.timebase.tick] := by
  simp only [State.reportMerge, emitFor_eq, setEntry_emitAll, entry_emitAll, setEntry_setEntry, entry_setEntry_same]
  rfl

theorem flushMerge_eq (s : State) (n : Index) :
    s.flushMerge n = (s.setEntry n (s.entry n).flushed).emitAll (s.flushEvents n) := by
  by_cases h : (s.entry n).merge.count = 0
  · simp [State.flushMerge, Entry.flushed, State.flushEvents, h]
  · simp only [State.flushMerge, Entry.flushed, State.flushEvents, if_neg h, reportMerge_eq]

theorem flushToQuiet_eq (s : State) (n : Index) :
    s.flushToQuiet n = (s.setEntry n (s.entry n).flushedQuiet).emitAll (s.flushEvents n) := by
  simp [State.flushToQuiet, flushMerge_eq, Entry.flushedQuiet]

theorem queue_flushEvents (s : State) (n : Index) : s.queue.arriveAll (s.flushEvents n) = s.queueAfterFlush n := by
  simp only [State.flushEvents, State.queueAfterFlush]
  split <;> rfl

/-! ## Tick events -/

theorem expireHoldoff_eq (s : State) (n : Index) :
    s.expireHoldoff n =
      (s.setEntry n (s.entry n).afterHoldoffExpiry).emitAll (s.holdoffExpiryEvents n s.timebase.tick) := by
  by_cases h : (s.entry n).merge.count = 0
  · simp [State.expireHoldoff, Entry.afterHoldoffExpiry, State.holdoffExpiryEvents, h]
  · simp only [State.expireHoldoff, Entry.afterHoldoffExpiry, State.holdoffExpiryEvents, if_neg h, reportMerge_eq,
      Entry.reported, entry_emitAll, entry_setEntry_same, setEntry_emitAll, setEntry_setEntry]

/-- What a tick event does at an entry's holdoff (R44): the entry of `afterHoldoffTick`, and the events of an expiry. -/
theorem tickHoldoff_eq (s : State) (n : Index) :
    s.tickHoldoff n = (s.setEntry n (s.entry n).afterHoldoffTick).emitAll
      (if (s.entry n).holdoffDue then s.holdoffExpiryEvents n s.timebase.tick else []) := by
  by_cases hr : (s.entry n).state = .armed ∧ (s.entry n).holdoffState = .holding
  · by_cases hd : (s.entry n).holdoffRemaining.toNat ≤ 1 <;>
      simp [State.tickHoldoff, Entry.holdoffDue, Entry.holdoffRuns, Entry.afterHoldoffTick, hr, hd, expireHoldoff_eq]
  · have hrun : (s.entry n).holdoffRuns = false := by simpa [Entry.holdoffRuns] using hr
    simp [State.tickHoldoff, Entry.holdoffDue, Entry.afterHoldoffTick, hr, hrun]

theorem expireDeadline_eq (s : State) (n : Index) :
    s.expireDeadline n =
      (s.setEntry n (s.entry n).afterDeadlineExpiry).emitAll (s.deadlineExpiryEvents n s.timebase.tick) := by
  by_cases h : (s.entry n).missCount.toNat + 1 < (s.entry n).missLimit.toNat
  · simp [State.expireDeadline, Entry.afterDeadlineExpiry, State.deadlineExpiryEvents, h]
  · simp [State.expireDeadline, Entry.afterDeadlineExpiry, State.deadlineExpiryEvents, h, emitFor_eq, State.staleEvent]

/-- What a tick event does at an entry's deadline (R56): the entry of `afterDeadlineTick`, and the events of an
expiry. -/
theorem tickDeadline_eq (s : State) (n : Index) :
    s.tickDeadline n = (s.setEntry n (s.entry n).afterDeadlineTick).emitAll
      (if (s.entry n).deadlineDue then s.deadlineExpiryEvents n s.timebase.tick else []) := by
  by_cases hr : (s.entry n).state = .armed ∧ (s.entry n).deadlineState = .running
  · by_cases hd : (s.entry n).deadlineRemaining.toNat ≤ 1 <;>
      simp [State.tickDeadline, Entry.deadlineDue, Entry.deadlineRuns, Entry.afterDeadlineTick, hr, hd,
        expireDeadline_eq]
  · have hrun : (s.entry n).deadlineRuns = false := by simpa [Entry.deadlineRuns] using hr
    simp [State.tickDeadline, Entry.deadlineDue, Entry.afterDeadlineTick, hr, hrun]

/-! ## One host write at one entry -/

/-- The slot of the written offset of entry n. -/
def State.writtenSlot (s : State) (w : HostWrite) (n : Index) : SlotNumber :=
  (s.entry n).slotAt ((s.entry n).offsetOf w.addr)

/-- The deadline fields of an ARMED entry after a write, with the FRESH event counted (R59, R60). -/
def Entry.afterWriteAtDeadline (e : Entry) : Entry :=
  { e with
    eventCount := if e.deadlineState = .stale then e.eventCount + 1 else e.eventCount
    deadlineState := if e.deadlineState = .off then .off else .running
    deadlineRemaining := if e.deadlineState = .off then e.deadlineRemaining else e.deadline
    missCount := if e.deadlineState = .off then e.missCount else 0 }

theorem newValue_eq (s : State) (n : Index) (w : HostWrite) :
    s.newValue n w = mergeLanes w.lanes (s.oldValue n w) w.data := rfl

theorem writeAtDeadline_eq (s : State) (n : Index) (w : HostWrite) :
    s.writeAtDeadline n ((s.entry n).offsetOf w.addr) (s.oldValue n w) (s.newValue n w) =
      (s.setEntry n (s.entry n).afterWriteAtDeadline).emitAll
        (if (s.entry n).deadlineState = .stale then [s.writeEvent n w .fresh ((s.entry n).missLimit.zeroExtend 16)]
         else []) := by
  cases h : (s.entry n).deadlineState
  · have he : (s.entry n).afterWriteAtDeadline = s.entry n := by
      simp only [Entry.afterWriteAtDeadline, h, if_true, reduceCtorEq, if_false]
      rw [← h]
    simp [State.writeAtDeadline, he, h]
  · simp [State.writeAtDeadline, Entry.afterWriteAtDeadline, h]
  · simp [State.writeAtDeadline, Entry.afterWriteAtDeadline, h, emitFor_eq, State.writeEvent]

/-- An entry after a trigger has reached its holdoff (R42, R43), with the EDGE event counted. -/
def Entry.afterTrigger (e : Entry) (offset : Nat) (old new : Word) : Entry :=
  { e with
    eventCount := if e.holdoffState = .quiet then e.eventCount + 1 else e.eventCount
    holdoffState := if e.holdoffState = .quiet ∧ e.holdoff ≠ 0 then .holding else e.holdoffState
    holdoffRemaining := if e.holdoffState = .quiet ∧ e.holdoff ≠ 0 then e.holdoff else e.holdoffRemaining
    merge :=
      if e.holdoffState = .holding then
        { count := saturatingSucc e.merge.count, offset := BitVec.ofNat 4 offset, old := old, new := new }
      else e.merge }

theorem trigger_eq (s : State) (n : Index) (offset : Nat) (old new : Word) :
    s.trigger n offset old new =
      (s.setEntry n ((s.entry n).afterTrigger offset old new)).emitAll
        (if (s.entry n).holdoffState = .quiet then
          [{ kind := .edge, cls := (s.entry n).cls, index := n, offset := BitVec.ofNat 4 offset, old := old, new := new,
             tag := (s.entry n).tag, count := 1, time := s.timebase.tick }]
         else []) := by
  cases hh : (s.entry n).holdoffState
  · by_cases hz : (s.entry n).holdoff = 0
    · simp only [State.trigger, Entry.afterTrigger, hh, emitFor_eq, if_true, hz, ne_eq, not_true_eq_false,
        and_false, if_false, reduceCtorEq]
    · simp only [State.trigger, Entry.afterTrigger, hh, emitFor_eq, if_true, entry_emitAll,
        entry_setEntry_same, setEntry_emitAll, setEntry_setEntry, ne_eq, hz, not_false_eq_true, and_true, reduceCtorEq,
        if_false]
  · simp [State.trigger, Entry.afterTrigger, hh]

theorem saturatingSucc_eq (x : BitVec 16) : saturatingSucc x = if x = 65535#16 then 65535#16 else x + 1#16 := by
  simp only [saturatingSucc]
  split <;> simp_all

/-- The entry of `entryAfterWrite`, as the deadline hand-off and then the trigger hand-off make it (R29). -/
theorem entryAfterWrite_armed (s : State) (w : HostWrite) (n : Index) (ha : (s.entry n).state = .armed) :
    s.entryAfterWrite w n =
      if s.writeTriggers n w then
        (s.entry n).afterWriteAtDeadline.afterTrigger ((s.entry n).offsetOf w.addr) (s.oldValue n w) (s.newValue n w)
      else (s.entry n).afterWriteAtDeadline := by
  simp only [State.entryAfterWrite, State.writeEvents, if_pos ha, Entry.afterTrigger, Entry.afterWriteAtDeadline]
  by_cases ht : s.writeTriggers n w = true
  · by_cases hq : (s.entry n).holdoffState = .quiet <;> by_cases hs : (s.entry n).deadlineState = .stale <;>
      simp [ht, hq, hs, saturatingSucc_eq, BitVec.add_assoc]
  · by_cases hs : (s.entry n).deadlineState = .stale <;> simp [ht, hs]

theorem setSlot_emitAll (s : State) (es : List Event) (k : SlotNumber) (v : Slot) :
    (s.emitAll es).setSlot k v = (s.setSlot k v).emitAll es := rfl

theorem setEntry_setSlot (s : State) (n : Index) (e : Entry) (k : SlotNumber) (v : Slot) :
    (s.setSlot k v).setEntry n e = (s.setEntry n e).setSlot k v := rfl

/-- A write at an ARMED entry: the deadline hand-off, the shadow, and the trigger hand-off (R29), as one write of the
entry, one of the slot, and the events in their order. -/
theorem writeAtEntry_armed (s : State) (w : HostWrite) (n : Index) (ha : (s.entry n).state = .armed) :
    State.writeAtEntry w n s =
      ((s.setEntry n (s.entryAfterWrite w n)).setSlot (s.writtenSlot w n)
        { s.slot (s.writtenSlot w n) with value := s.newValue n w }).emitAll (s.writeEvents w n) := by
  have hw : State.writeAtEntry w n s =
      s.judgeArmed n ((s.entry n).offsetOf w.addr) (s.oldValue n w) (s.newValue n w) := by
    simp [State.writeAtEntry, ha]; rfl
  rw [hw, entryAfterWrite_armed s w n ha]
  have ht : (s.entry n).triggers (s.oldValue n w) (s.newValue n w) = s.writeTriggers n w := rfl
  have hslot : (s.entry n).afterWriteAtDeadline.slotAt ((s.entry n).offsetOf w.addr) = s.writtenSlot w n := rfl
  simp only [State.judgeArmed, writeAtDeadline_eq, State.setShadow, entry_emitAll, entry_setEntry_same, slot_emitAll,
    slot_setEntry, setSlot_emitAll, ht, hslot]
  cases h : s.writeTriggers n w
  · simp [State.writeEvents, ha, h]
  · simp only [if_true, trigger_eq, State.writeEvents, ha, h, setEntry_emitAll, emitAll_emitAll, entry_emitAll,
      entry_setSlot, entry_setEntry_same, setEntry_setSlot, setEntry_setEntry, true_and]
    rfl

theorem unprimed_of_ne_priming {s : State} {n : Index} (h : (s.entry n).state ≠ .priming) (w : HostWrite) :
    s.unprimed n w = false := by
  simp [State.unprimed, h]

theorem unprimed_of_priming {s : State} {n : Index} (h : (s.entry n).state = .priming) (w : HostWrite) :
    s.unprimed n w = !decide ((s.entry n).offsetOf w.addr < (s.entry n).primeProgress.toNat) := by
  simp [State.unprimed, h]

/-- A matched write at an entry that holds the word (R14, R16, R26 to R29): one write of the entry, one of the slot, and
the events in their order. -/
theorem writeAtEntry_eq (s : State) (w : HostWrite) (n : Index) (hf : (s.entry n).state ≠ .free) :
    State.writeAtEntry w n s =
      ((s.setEntry n (s.entryAfterWrite w n)).setSlot (s.writtenSlot w n) (s.slotAfterWrite w n)).emitAll
        (s.writeEvents w n) := by
  cases hst : (s.entry n).state with
  | free => exact absurd hst hf
  | armed =>
    rw [writeAtEntry_armed s w n hst]
    simp [State.slotAfterWrite, unprimed_of_ne_priming (s := s) (n := n) (by simp [hst]), State.writtenSlot]
  | suspended =>
    simp [State.writeAtEntry, hst, State.entryAfterWrite, State.writeEvents, State.slotAfterWrite,
      unprimed_of_ne_priming (s := s) (n := n) (by simp [hst]), State.writtenSlot, State.setShadow, newValue_eq,
      State.oldValue]
  | priming =>
    by_cases ho : (s.entry n).offsetOf w.addr < (s.entry n).primeProgress.toNat
    · simp [State.writeAtEntry, hst, State.entryAfterWrite, State.writeEvents, State.slotAfterWrite,
        unprimed_of_priming hst, State.writtenSlot, State.setShadow, newValue_eq, State.oldValue, ho]
    · simp [State.writeAtEntry, hst, State.entryAfterWrite, State.writeEvents, State.slotAfterWrite,
        unprimed_of_priming hst, State.writtenSlot, State.markShadow, newValue_eq, State.oldValue, ho, State.shadow]

end Sys2Proof.Machine
end

section
/-! PROOFS. What the operations on one entry keep of it: its place in the table, and its fields in agreement. -/

namespace Sys2Proof.Machine

/-! ## The place of an entry -/

/-- An operation keeps an entry's place: whether it is FREE or PRIMING, its words, its slots and its prime progress. -/
structure Entry.Kept (e e' : Entry) : Prop where
  free : e'.state = .free ↔ e.state = .free
  priming : e'.state = .priming ↔ e.state = .priming
  base : e'.base = e.base
  span : e'.span = e.span
  slots : e'.slots = e.slots
  progress : e'.primeProgress = e.primeProgress

@[refl] theorem Entry.Kept.refl (e : Entry) : e.Kept e := ⟨Iff.rfl, Iff.rfl, rfl, rfl, rfl, rfl⟩

theorem Entry.Kept.trans {e f g : Entry} (h : e.Kept f) (k : f.Kept g) : e.Kept g :=
  ⟨k.free.trans h.free, k.priming.trans h.priming, k.base.trans h.base, k.span.trans h.span, k.slots.trans h.slots,
    k.progress.trans h.progress⟩

/-- An operation that leaves the state, the words, the slots and the progress alone keeps an entry's place. -/
theorem Entry.Kept.of_eq {e e' : Entry} (hs : e'.state = e.state) (hb : e'.base = e.base) (hn : e'.span = e.span)
    (hl : e'.slots = e.slots) (hp : e'.primeProgress = e.primeProgress) : e.Kept e' :=
  ⟨by rw [hs], by rw [hs], hb, hn, hl, hp⟩

theorem Entry.Kept.holds {e e' : Entry} (h : e.Kept e') (a : Addr) : e'.holds a = e.holds a := by
  have hf : (e'.state != .free) = (e.state != .free) := by
    rw [Bool.eq_iff_iff]
    simp [h.free]
  simp only [Entry.holds, hf, h.base, h.span]

theorem reported_kept (e : Entry) : e.Kept e.reported := .of_eq rfl rfl rfl rfl rfl

theorem flushed_kept (e : Entry) : e.Kept e.flushed := by
  unfold Entry.flushed
  split
  · exact .refl e
  · exact reported_kept e

theorem flushedQuiet_kept (e : Entry) : e.Kept e.flushedQuiet :=
  (flushed_kept e).trans (.of_eq rfl rfl rfl rfl rfl)

theorem afterHoldoffTick_kept (e : Entry) : e.Kept e.afterHoldoffTick := by
  unfold Entry.afterHoldoffTick Entry.afterHoldoffExpiry
  (repeat' split) <;> exact .of_eq rfl rfl rfl rfl rfl

theorem afterDeadlineTick_kept (e : Entry) : e.Kept e.afterDeadlineTick := by
  unfold Entry.afterDeadlineTick Entry.afterDeadlineExpiry
  (repeat' split) <;> exact .of_eq rfl rfl rfl rfl rfl

theorem entryAfterWrite_kept (s : State) (w : HostWrite) (n : Index) : (s.entry n).Kept (s.entryAfterWrite w n) := by
  unfold State.entryAfterWrite
  dsimp only
  split <;> exact .of_eq rfl rfl rfl rfl rfl

theorem startDeadline_kept (e : Entry) : e.Kept e.startDeadline := by
  unfold Entry.startDeadline
  split <;> exact .of_eq rfl rfl rfl rfl rfl

theorem withRule_kept (e : Entry) (d : Descriptor) : e.Kept (e.withRule d) := .of_eq rfl rfl rfl rfl rfl

/-! ## The fields of an entry in agreement -/

theorem not_free_of_armed {e : Entry} (h : e.state = .armed) : e.state ≠ .free := by simp [h]

/-- A free entry is as R1 says: its fields agree. -/
theorem wf_free : Entry.free.wf := by
  simp [Entry.wf, Entry.free, MergeRecord.clear]

theorem reported_wf {e : Entry} (h : e.wf) (hf : e.state ≠ .free) : e.reported.wf := by
  unfold Entry.wf at *
  simp [Entry.reported, MergeRecord.clear] at *
  grind

theorem flushed_wf {e : Entry} (h : e.wf) (hf : e.state ≠ .free) : e.flushed.wf := by
  unfold Entry.flushed
  split
  · exact h
  · exact reported_wf h hf

theorem eventCounted_wf {e : Entry} (h : e.wf) (hf : e.state ≠ .free) (c : BitVec 16) :
    Entry.wf { e with eventCount := c } := by
  unfold Entry.wf at *
  grind

theorem flushedQuiet_wf {e : Entry} (h : e.wf) (hf : e.state ≠ .free) : e.flushedQuiet.wf := by
  have h := flushed_wf h hf
  have hf := mt (flushed_kept e).free.1 hf
  unfold Entry.flushedQuiet
  unfold Entry.wf at *
  simp [MergeRecord.clear] at *
  grind

theorem ne_zero_of_toNat_le {n : Nat} {x y : BitVec n} (hx : x ≠ 0) (hxy : x.toNat ≤ y.toNat) : y ≠ 0 := by
  rintro rfl
  exact hx (BitVec.eq_of_toNat_eq (by simpa using hxy))

theorem holdoff_pos {e : Entry} (h : e.wf) (hh : e.holdoffState = .holding) : e.holdoff ≠ 0 := by
  obtain ⟨-, hne, hle⟩ := h.2.2.2.2.1 hh
  exact ne_zero_of_toNat_le hne hle

theorem deadline_pos {e : Entry} (h : e.wf) (hd : e.deadlineState ≠ .off) : e.deadline ≠ 0 :=
  (h.2.2.2.2.2.2.2.2.1.1 hd).2

theorem afterHoldoffExpiry_wf {e : Entry} (h : e.wf) (ha : e.state = .armed) (hh : e.holdoffState = .holding) :
    e.afterHoldoffExpiry.wf := by
  unfold Entry.afterHoldoffExpiry
  split
  · unfold Entry.wf at *
    grind
  · have hpos : e.holdoff ≠ 0 := holdoff_pos h hh
    unfold Entry.wf at *
    grind

theorem afterHoldoffTick_wf {e : Entry} (h : e.wf) : e.afterHoldoffTick.wf := by
  unfold Entry.afterHoldoffTick
  split
  next hr =>
    split
    · exact afterHoldoffExpiry_wf h hr.1 hr.2
    next hd =>
      have hle : (e.holdoffRemaining - 1).toNat = e.holdoffRemaining.toNat - 1 :=
        BitVec.toNat_sub_of_le (by simpa [BitVec.le_def] using by omega)
      have hne : e.holdoffRemaining - 1 ≠ 0 := by
        rw [BitVec.toNat_ne, hle]
        simpa using by omega
      unfold Entry.wf at *
      grind
  · exact h

theorem afterDeadlineExpiry_wf {e : Entry} (h : e.wf) (ha : e.state = .armed) (hd : e.deadlineState = .running) :
    e.afterDeadlineExpiry.wf := by
  unfold Entry.afterDeadlineExpiry
  split
  next hm =>
    have hle : (e.missCount + 1).toNat = e.missCount.toNat + 1 := by
      have := e.missLimit.isLt
      rw [BitVec.toNat_add]
      simpa using by omega
    have hpos : e.deadline ≠ 0 := deadline_pos h (by simp [hd])
    unfold Entry.wf at *
    grind
  · unfold Entry.wf at *
    grind

theorem afterDeadlineTick_wf {e : Entry} (h : e.wf) : e.afterDeadlineTick.wf := by
  unfold Entry.afterDeadlineTick
  split
  next hr =>
    split
    · exact afterDeadlineExpiry_wf h hr.1 hr.2
    next hd =>
      have hle : (e.deadlineRemaining - 1).toNat = e.deadlineRemaining.toNat - 1 :=
        BitVec.toNat_sub_of_le (by simpa [BitVec.le_def] using by omega)
      have hne : e.deadlineRemaining - 1 ≠ 0 := by
        rw [BitVec.toNat_ne, hle]
        simpa using by omega
      unfold Entry.wf at *
      grind
  · exact h

theorem missLimit_pos {e : Entry} (h : e.wf) (hf : e.state ≠ .free) (hd : e.deadline ≠ 0) : 0 < e.missLimit.toNat := by
  have hne : e.missLimit.toNat ≠ 0 := by simpa [BitVec.toNat_ne] using (h.2.1 hf).2.2.2.2 hd
  omega

theorem afterWriteAtDeadline_wf {e : Entry} (h : e.wf) (ha : e.state = .armed) : e.afterWriteAtDeadline.wf := by
  have hlim := missLimit_pos h (not_free_of_armed ha)
  unfold Entry.afterWriteAtDeadline
  cases hd : e.deadlineState <;>
    · unfold Entry.wf at *
      grind

theorem saturatingSucc_ne_zero (x : BitVec 16) : saturatingSucc x ≠ 0 := by
  rw [saturatingSucc_eq]
  split
  · simp
  · bv_omega

theorem afterTrigger_wf {e : Entry} (h : e.wf) (ha : e.state = .armed) (offset : Nat) (old new : Word) :
    (e.afterTrigger offset old new).wf := by
  have hs := saturatingSucc_ne_zero e.merge.count
  unfold Entry.afterTrigger
  cases hh : e.holdoffState <;> by_cases hz : e.holdoff = 0 <;>
    · unfold Entry.wf at *
      grind

theorem entryAfterWrite_wf {s : State} {n : Index} (h : (s.entry n).wf) (w : HostWrite) : (s.entryAfterWrite w n).wf := by
  by_cases ha : (s.entry n).state = .armed
  · rw [entryAfterWrite_armed s w n ha]
    have hw := afterWriteAtDeadline_wf h ha
    split
    · exact afterTrigger_wf hw ha _ _ _
    · exact hw
  · simpa only [State.entryAfterWrite, if_neg ha] using h

/-- An entry has a legal descriptor's fields (R11). -/
def Entry.legal (e : Entry) : Prop :=
  1 ≤ e.span.toNat ∧ e.span.toNat ≤ 16 ∧ e.base.toNat + e.span.toNat ≤ 0x100000 ∧
    (e.mask ≠ 0 ∨ e.sense = .touch) ∧ (e.deadline ≠ 0 → e.missLimit ≠ 0)

/-- An entry has no holdoff and no merge to report. -/
def Entry.quietened (e : Entry) : Prop := e.holdoffState = .quiet ∧ e.holdoffRemaining = 0 ∧ e.merge = MergeRecord.clear

theorem legal_of_wf {e : Entry} (h : e.wf) (hf : e.state ≠ .free) : e.legal := h.2.1 hf

/-- Only an ARMED entry holds off (R41). -/
theorem quietened_of_wf {e : Entry} (h : e.wf) (ha : e.state ≠ .armed) : e.quietened := by
  have hq : e.holdoffState = .quiet := by
    cases hh : e.holdoffState with
    | quiet => rfl
    | holding => exact absurd (h.2.2.2.2.1 hh).1 ha
  obtain ⟨hr, hm⟩ := h.2.2.2.1 hq
  exact ⟨hq, hr, h.2.2.1 hm⟩

theorem flushedQuiet_quietened (e : Entry) : e.flushedQuiet.quietened := ⟨rfl, rfl, rfl⟩

/-- Only an ARMED entry has a deadline that is not OFF (R54). -/
theorem deadline_off_of_wf {e : Entry} (h : e.wf) (ha : e.state ≠ .armed) :
    e.deadlineState = .off ∧ e.deadlineRemaining = 0 ∧ e.missCount = 0 := by
  have hoff : e.deadlineState = .off := by
    by_contra hd
    exact ha (h.2.2.2.2.2.2.2.2.1.1 hd).1
  exact ⟨hoff, h.2.2.2.2.2.1 hoff⟩

/-- A legal, quiet entry whose deadline starts, or is OFF, is as the chapters allow, whatever its deadline was before
(R55). -/
theorem startDeadline_wf {e : Entry} (hs : e.state = .armed ∨ e.state = .suspended) (hl : e.legal) (hq : e.quietened) :
    e.startDeadline.wf := by
  obtain ⟨hquiet, hrem, hmerge⟩ := hq
  have hcount : e.merge.count = 0 := by rw [hmerge]; rfl
  have hlim : e.deadline ≠ 0 → 0 < e.missLimit.toNat := fun hd => by
    have hne : e.missLimit.toNat ≠ 0 := by simpa [BitVec.toNat_ne] using hl.2.2.2.2 hd
    omega
  unfold Entry.legal at hl
  unfold Entry.startDeadline
  split
  · unfold Entry.wf
    grind
  · unfold Entry.wf
    grind

/-- The entry a LOAD puts into PRIMING, legal and quiet with its deadline OFF, is as the chapters allow. -/
theorem priming_wf {e : Entry} (hs : e.state = .priming) (hl : e.legal) (hq : e.quietened)
    (hd : e.deadlineState = .off ∧ e.deadlineRemaining = 0 ∧ e.missCount = 0)
    (hp : e.primeProgress.toNat < e.span.toNat) : e.wf := by
  obtain ⟨hquiet, hrem, hmerge⟩ := hq
  have hcount : e.merge.count = 0 := by rw [hmerge]; rfl
  unfold Entry.legal at hl
  unfold Entry.wf
  grind

/-- An entry after a SUSPEND (R20, R48, R64). -/
def Entry.suspend (e : Entry) : Entry :=
  { e.flushedQuiet with state := .suspended, deadlineState := .off, deadlineRemaining := 0, missCount := 0 }

theorem suspend_wf {e : Entry} (h : e.wf) (ha : e.state = .armed) : e.suspend.wf := by
  have hf := flushedQuiet_wf h (not_free_of_armed ha)
  have hk : e.flushedQuiet.state = .armed := by
    simp only [Entry.flushedQuiet, Entry.flushed]
    split <;> exact ha
  obtain ⟨hquiet, hrem, hmerge⟩ := flushedQuiet_quietened e
  unfold Entry.suspend
  unfold Entry.wf at *
  grind

theorem suspend_kept {e : Entry} (ha : e.state = .armed) : e.Kept e.suspend := by
  have hk := flushedQuiet_kept e
  exact ⟨by simp [Entry.suspend, ha], by simp [Entry.suspend, ha], hk.base, hk.span, hk.slots, hk.progress⟩

/-- An entry after a RESUME (R21, R55). -/
def Entry.resume (e : Entry) : Entry := Entry.startDeadline { e with state := .armed, holdoffState := .quiet }

theorem resume_wf {e : Entry} (h : e.wf) (hs : e.state = .suspended) : e.resume.wf := by
  obtain ⟨-, hrem, hmerge⟩ := quietened_of_wf h (by simp [hs])
  have hl : e.legal := legal_of_wf h (by simp [hs])
  exact startDeadline_wf (.inl rfl) hl ⟨rfl, hrem, hmerge⟩

theorem resume_kept {e : Entry} (hs : e.state = .suspended) : e.Kept e.resume := by
  have hk : e.Kept { e with state := .armed, holdoffState := .quiet } := ⟨by simp [hs], by simp [hs], rfl, rfl, rfl, rfl⟩
  exact hk.trans (startDeadline_kept _)

/-- An entry after a RETUNE (R22, R50, R64). -/
def Entry.retune (e : Entry) (d : Descriptor) : Entry := (e.flushedQuiet.withRule d).startDeadline

theorem retune_kept (e : Entry) (d : Descriptor) : e.Kept (e.retune d) :=
  ((flushedQuiet_kept e).trans (withRule_kept _ d)).trans (startDeadline_kept _)

/-! ## Legal descriptors -/

theorem senseOf_none_iff : ∀ code : BitVec 3, (senseOf code).isNone = true ↔ code = 6 ∨ code = 7 := by decide

theorem senseOf_touch_iff : ∀ code : BitVec 3, senseOf code = some .touch ↔ code = 5 := by decide

/-- The check of R11 is the table of R11. -/
theorem illegal_iff (d : Descriptor) : d.illegal = true ↔ d.isIllegal := by
  simp only [Descriptor.illegal, Descriptor.isIllegal, Bool.or_eq_true, Bool.and_eq_true, beq_iff_eq, bne_iff_ne,
    decide_eq_true_eq, senseOf_none_iff, ne_eq, senseOf_touch_iff, or_assoc]
  have hspan : ¬(1 ≤ d.span.toNat ∧ d.span.toNat ≤ 16) ↔ d.span.toNat = 0 ∨ 16 < d.span.toNat := by omega
  rw [hspan, or_assoc]

theorem getD_senseOf_touch {code : BitVec 3} (h : code = 5) : (senseOf code).getD .rise = .touch := by
  rw [(senseOf_touch_iff code).2 h]; rfl

/-- An entry with a legal descriptor's words and rule is legal (R11, R12). -/
theorem withRule_legal {e : Entry} {d : Descriptor} (h : ¬d.isIllegal) (hb : e.base = d.base) (hs : e.span = d.span) :
    (e.withRule d).legal := by
  simp only [Descriptor.isIllegal, not_or, not_and_or, not_not] at h
  obtain ⟨⟨h1, h16⟩, htop, -, hmask, hlim, -⟩ := h
  refine ⟨?_, ?_, ?_, ?_, ?_⟩
  · simpa [Entry.withRule, hs] using h1
  · simpa [Entry.withRule, hs] using h16
  · simp only [Entry.withRule, hb, hs]
    omega
  · exact hmask.imp id getD_senseOf_touch
  · exact fun hd => hlim.resolve_left hd

/-- A RETUNE by a legal descriptor of the entry's words (R22). -/
theorem retune_wf {e : Entry} {d : Descriptor} (hs : e.state = .armed ∨ e.state = .suspended) (h : ¬d.isIllegal)
    (hb : e.base = d.base) (hn : e.span = d.span) : (e.retune d).wf := by
  have hk := flushedQuiet_kept e
  have hst : e.flushedQuiet.state = e.state := by
    simp only [Entry.flushedQuiet, Entry.flushed]
    split <;> rfl
  exact startDeadline_wf (by simpa [Entry.withRule, hst] using hs)
    (withRule_legal h (hk.base.trans hb) (hk.span.trans hn)) (flushedQuiet_quietened e)

/-- The entry a LOAD puts into PRIMING is as the chapters allow (R12). -/
theorem loadedEntry_wf {d : Descriptor} (h : ¬d.isIllegal) (ks : List SlotNumber) : (loadedEntry d ks).wf := by
  have hl : (loadedEntry d ks).legal := withRule_legal h rfl rfl
  have hspan : 0 < (loadedEntry d ks).span.toNat := hl.1
  exact priming_wf rfl hl ⟨rfl, rfl, rfl⟩ ⟨rfl, rfl, rfl⟩ hspan

/-! ## Priming -/

/-- The state that ends the priming of an entry. -/
theorem primed_state (e : Entry) : e.primed.state = .armed ∨ e.primed.state = .suspended := by
  unfold Entry.primed Entry.startDeadline
  split <;> split <;> simp

theorem primed_place (e : Entry) : e.primed.base = e.base ∧ e.primed.span = e.span ∧ e.primed.slots = e.slots := by
  unfold Entry.primed Entry.startDeadline
  (repeat' split) <;> exact ⟨rfl, rfl, rfl⟩

/-- An entry at the end of its priming is as the chapters allow, whatever its progress (R17, R55). -/
theorem primed_wf {e : Entry} (h : e.wf) (hs : e.state = .priming) (k : BitVec 5) :
    (Entry.primed { e with primeProgress := k }).wf := by
  obtain ⟨-, hrem, hmerge⟩ := quietened_of_wf h (by simp [hs])
  have hl : e.legal := legal_of_wf h (by simp [hs])
  unfold Entry.primed
  split
  · exact startDeadline_wf (.inl rfl) hl ⟨rfl, hrem, hmerge⟩
  · exact startDeadline_wf (.inr rfl) hl ⟨rfl, hrem, hmerge⟩

/-- A prime read that is not the last keeps the entry as the chapters allow (R13). -/
theorem primeProgress_wf {e : Entry} (h : e.wf) (hs : e.state = .priming) {k : BitVec 5} (hk : k.toNat < e.span.toNat) :
    Entry.wf { e with primeProgress := k } := by
  have hl : e.legal := legal_of_wf h (by simp [hs])
  have hq : e.quietened := quietened_of_wf h (by simp [hs])
  have hd := deadline_off_of_wf h (by simp [hs])
  exact priming_wf hs hl hq hd hk

end Sys2Proof.Machine
end

section
/-! PROOFS. What every act keeps of the Watch Table, the Shadow Store and the scrub claim. -/

namespace Sys2Proof.Machine

/-! ## The whole table -/

/-- An operation keeps the place of every entry. -/
def State.Keeps (s t : State) : Prop := ∀ n, (s.entry n).Kept (t.entry n)

theorem State.Keeps.refl (s : State) : s.Keeps s := fun _ => .refl _

theorem State.Keeps.trans {s t u : State} (h : s.Keeps t) (k : t.Keeps u) : s.Keeps u := fun n => (h n).trans (k n)

theorem keeps_of_entries {s t : State} (h : t.entries = s.entries) : s.Keeps t := fun n => by
  rw [entry_of_entries h]

theorem keeps_setEntry {s : State} {n : Index} {e : Entry} (h : (s.entry n).Kept e) : s.Keeps (s.setEntry n e) :=
  fun m => by
    rw [entry_setEntry]
    split
    next hm => exact hm ▸ h
    next => exact .refl _

/-- What every visit of a list keeps, the whole visit keeps. -/
theorem forEach_induct {P : State → Prop} {act : Index → State → State} (ns : List Index) {s : State} (hs : P s)
    (h : ∀ n ∈ ns, ∀ t, P t → P (act n t)) : P (s.forEach ns act) := by
  induction ns generalizing s with
  | nil => exact hs
  | cons n ns ih => exact ih (h n (by simp) s hs) fun m hm => h m (by simp [hm])

theorem mem_holders {s : State} {a : Addr} {n : Index} : n ∈ s.holders a ↔ (s.entry n).holds a = true := by
  simp [State.holders, mem_entryNumbers]

theorem mem_mergers {s : State} {n : Index} :
    n ∈ s.mergers ↔ (s.entry n).state = .armed ∧ (s.entry n).merge.count ≠ 0 := by
  simp [State.mergers, mem_entryNumbers]

theorem not_free_of_holds {e : Entry} {a : Addr} (h : e.holds a = true) : e.state ≠ .free := by
  simp only [Entry.holds, Bool.and_eq_true, bne_iff_ne] at h
  exact h.1.1

/-- The offset of a word that an entry holds is below its span (R3, R25). -/
theorem offsetOf_lt {e : Entry} {a : Addr} (h : e.holds a = true) : e.offsetOf a < e.span.toNat := by
  simp only [Entry.holds, Bool.and_eq_true, decide_eq_true_eq] at h
  simp only [Entry.offsetOf]
  omega

theorem writeAtEntry_keeps (s : State) (w : HostWrite) (n : Index) : s.Keeps (State.writeAtEntry w n s) := by
  by_cases hf : (s.entry n).state = .free
  · simpa [State.writeAtEntry, hf] using State.Keeps.refl s
  · rw [writeAtEntry_eq s w n hf]
    exact keeps_setEntry (entryAfterWrite_kept s w n)

theorem evaluate_keeps (s : State) (w : HostWrite) : s.Keeps (s.evaluate w) :=
  forEach_induct _ (State.Keeps.refl s) fun n _ t h => h.trans (writeAtEntry_keeps t w n)

theorem tickEntry_keeps (s : State) (n : Index) : s.Keeps (State.tickEntry n s) := by
  have h1 : s.Keeps (s.tickHoldoff n) := by
    rw [tickHoldoff_eq]
    exact keeps_setEntry (afterHoldoffTick_kept _)
  have h2 : (s.tickHoldoff n).Keeps ((s.tickHoldoff n).tickDeadline n) := by
    rw [tickDeadline_eq]
    exact keeps_setEntry (afterDeadlineTick_kept _)
  exact h1.trans h2

theorem flushRequest_keeps (s : State) : s.Keeps s.flushRequest :=
  forEach_induct _ (State.Keeps.refl s) fun n _ t h => h.trans (by
    rw [reportMerge_eq]
    exact keeps_setEntry (reported_kept _))

/-! ## Distinct slots -/

theorem entryNumbers_nodup : entryNumbers.Nodup := by
  refine List.Nodup.map_on (fun x hx y hy h => ?_) List.nodup_range
  simp only [List.mem_range] at hx hy
  have := congrArg BitVec.toNat h
  simpa [Nat.mod_eq_of_lt, hx, hy] using this

/-- No slot serves twice (R5): no entry has a slot twice, and no two entries have one in common. -/
theorem slots_nodup_iff (s : State) : (entryNumbers.flatMap fun n => (s.entry n).slots).Nodup ↔
    (∀ n, (s.entry n).slots.Nodup) ∧ ∀ n m, n ≠ m → List.Disjoint (s.entry n).slots (s.entry m).slots := by
  rw [List.nodup_flatMap]
  have : Std.Symm (Function.onFun List.Disjoint fun n => (s.entry n).slots) := ⟨fun _ _ hd => hd.symm⟩
  refine and_congr (by simp [mem_entryNumbers]) ⟨fun h n m hnm => ?_, fun h => ?_⟩
  · exact h.forall (mem_entryNumbers n) (mem_entryNumbers m) hnm
  · exact entryNumbers_nodup.pairwise_of_forall_ne fun n _ m _ hnm => h n m hnm

theorem slotAt_mem {e : Entry} {o : Nat} (ho : o < e.slots.length) : e.slotAt o ∈ e.slots := by
  simp [Entry.slotAt, ho]

/-- Each slot is the slot of one offset of one entry (R5). -/
theorem slotAt_injective {s : State} (h : s.slotsWf) {n m : Index} {o p : Nat} (ho : o < (s.entry n).span.toNat)
    (hp : p < (s.entry m).span.toNat) (he : (s.entry n).slotAt o = (s.entry m).slotAt p) : n = m ∧ o = p := by
  obtain ⟨hlen, hnodup, -⟩ := h
  obtain ⟨hone, htwo⟩ := (slots_nodup_iff s).1 hnodup
  have ho' : o < (s.entry n).slots.length := by rwa [hlen]
  have hp' : p < (s.entry m).slots.length := by rwa [hlen]
  obtain rfl : n = m := by
    by_contra hnm
    exact htwo n m hnm (slotAt_mem ho') (he ▸ slotAt_mem hp')
  refine ⟨rfl, (hone n).getElem_inj_iff.1 (?_ : (s.entry n).slots[o] = (s.entry n).slots[p])⟩
  simpa [Entry.slotAt, ho', hp'] using he

/-! ## Free slots -/

theorem mem_slotNumbers (k : SlotNumber) : k ∈ slotNumbers := by
  simp only [slotNumbers, List.mem_map, List.mem_range]
  exact ⟨k.toNat, k.isLt, by simp⟩

theorem slotNumbers_nodup : slotNumbers.Nodup := by
  refine List.Nodup.map_on (fun x hx y hy h => ?_) List.nodup_range
  simp only [List.mem_range] at hx hy
  have := congrArg BitVec.toNat h
  simpa [Nat.mod_eq_of_lt, hx, hy] using this

theorem mem_freeSlots {s : State} {k : SlotNumber} : k ∈ s.freeSlots ↔ (s.slot k).held = false := by
  simp [State.freeSlots, mem_slotNumbers]

theorem freeSlots_nodup (s : State) : s.freeSlots.Nodup := slotNumbers_nodup.filter _

theorem freeSlots_length (s : State) : s.freeSlots.length = s.freeSlots.toFinset.card :=
  (List.toFinset_card_of_nodup (freeSlots_nodup s)).symm

/-- Claiming free slots takes them out of the free ones (R6). -/
theorem freeSlots_length_claimed {s t : State} {ks : List SlotNumber} (hks : ks.Nodup) (hsub : ks ⊆ s.freeSlots)
    (ht : ∀ k, (t.slot k).held = if k ∈ ks then true else (s.slot k).held) :
    t.freeSlots.length = s.freeSlots.length - ks.length := by
  have hset : t.freeSlots.toFinset = s.freeSlots.toFinset \ ks.toFinset := by
    ext k
    by_cases hk : k ∈ ks <;> simp [mem_freeSlots, ht, hk]
  rw [freeSlots_length, freeSlots_length, hset, Finset.card_sdiff_of_subset fun k hk => by simpa using hsub (by simpa using hk),
    List.toFinset_card_of_nodup hks]

/-- Releasing held slots adds them to the free ones (R7). -/
theorem freeSlots_length_released {s t : State} {ks : List SlotNumber} (hks : ks.Nodup)
    (hheld : ∀ k ∈ ks, (s.slot k).held = true)
    (ht : ∀ k, (t.slot k).held = if k ∈ ks then false else (s.slot k).held) :
    t.freeSlots.length = s.freeSlots.length + ks.length := by
  have hset : t.freeSlots.toFinset = s.freeSlots.toFinset ∪ ks.toFinset := by
    ext k
    by_cases hk : k ∈ ks <;> simp [mem_freeSlots, ht, hk]
  have hdisj : Disjoint s.freeSlots.toFinset ks.toFinset := by
    refine Finset.disjoint_left.2 fun k hk hk' => ?_
    simp only [List.mem_toFinset, mem_freeSlots] at hk hk'
    simp [hheld k hk'] at hk
  rw [freeSlots_length, freeSlots_length, hset, Finset.card_union_of_disjoint hdisj, List.toFinset_card_of_nodup hks]

theorem freeSlots_of_held {s t : State} (h : ∀ k, (t.slot k).held = (s.slot k).held) : t.freeSlots = s.freeSlots := by
  simp only [State.freeSlots, h]

/-! ## The sum of the spans -/

/-- Where two tables differ in one entry, so do the sums of their held spans (R7). -/
theorem heldSpans_update {s t : State} (n : Index) (h : ∀ m, m ≠ n → t.entry m = s.entry m) :
    (entryNumbers.map fun m => (t.entry m).heldSpan).sum + (s.entry n).heldSpan =
      (entryNumbers.map fun m => (s.entry m).heldSpan).sum + (t.entry n).heldSpan := by
  rw [← List.sum_toFinset _ entryNumbers_nodup, ← List.sum_toFinset _ entryNumbers_nodup]
  have hn : n ∈ entryNumbers.toFinset := by simpa using mem_entryNumbers n
  rw [← Finset.sum_erase_add _ _ hn, ← Finset.sum_erase_add _ _ hn,
    Finset.sum_congr rfl fun m hm => by rw [h m (Finset.ne_of_mem_erase hm)]]
  omega

theorem heldSpans_of_kept {s t : State} (h : s.Keeps t) :
    (entryNumbers.map fun m => (t.entry m).heldSpan) = entryNumbers.map fun m => (s.entry m).heldSpan := by
  refine List.map_congr_left fun m _ => ?_
  simp only [Entry.heldSpan, (h m).free, (h m).span]

end Sys2Proof.Machine
end

section
/-! PROOFS. Every step keeps the Watch Table, the Shadow Store and the scrub claim consistent (O57). -/

namespace Sys2Proof.Machine

/-- What every step keeps of the Watch Table, the Shadow Store and the scrub claim. -/
def State.tableWf (s : State) : Prop := s.entriesWf ∧ s.slotsWf ∧ s.slotsAccounted

/-- The word at an offset of an entry has been primed, or its entry is not PRIMING (R13). -/
def State.primed (s : State) (n : Index) (o : Nat) : Prop :=
  (s.entry n).state ≠ .priming ∨ o < (s.entry n).primeProgress.toNat

theorem primed_of_kept {s t : State} (h : s.Keeps t) {n : Index} {o : Nat} : t.primed n o ↔ s.primed n o := by
  simp only [State.primed, ne_eq, (h n).priming, (h n).progress]

/-- A scrub claim that is not void keeps its word where the entry keeps its place. -/
theorem scrubClaimWf_of_keeps {s t : State} (h : s.scrubClaimWf) (hk : s.Keeps t)
    (hclaim : ∀ c, t.scrubber.claim = some c → s.scrubber.claim = some c) : t.scrubClaimWf := by
  intro c hc hv
  obtain ⟨hst, ho, ha⟩ := h c (hclaim c hc) hv
  have hk := hk c.entry
  refine ⟨?_, by rwa [hk.span], by rwa [hk.base]⟩
  have hf : (t.entry c.entry).state ≠ .free := fun hf => by simp [hk.free.1 hf] at hst
  have hp : (t.entry c.entry).state ≠ .priming := fun hp => by simp [hk.priming.1 hp] at hst
  cases h : (t.entry c.entry).state <;> simp_all

/-- An act that keeps the place of every entry, what each slot is held for, and the marks of primed words, keeps the
table consistent if each entry's fields stay in agreement. -/
theorem tableWf_of_keeps {s t : State} (h : s.tableWf) (hk : s.Keeps t) (hw : ∀ n, (t.entry n).wf)
    (hheld : ∀ k, (t.slot k).held = (s.slot k).held)
    (hmarks : ∀ n o, o < (s.entry n).span.toNat → s.primed n o →
      (t.slot ((s.entry n).slotAt o)).lowerKnown = (s.slot ((s.entry n).slotAt o)).lowerKnown ∧
      (t.slot ((s.entry n).slotAt o)).upperKnown = (s.slot ((s.entry n).slotAt o)).upperKnown)
    (hfree : t.freeCount = s.freeCount)
    (hclaim : ∀ c, t.scrubber.claim = some c → s.scrubber.claim = some c) : t.tableWf := by
  obtain ⟨⟨-, hscrub⟩, ⟨hlen, hnodup, hslots, hcount, hclear⟩, hsum⟩ := h
  have hslotsEq : ∀ n, (t.entry n).slots = (s.entry n).slots := fun n => (hk n).slots
  refine ⟨⟨hw, scrubClaimWf_of_keeps hscrub hk hclaim⟩, ⟨fun n => ?_, ?_, fun k => ?_, ?_, fun n o ho hp => ?_⟩, ?_⟩
  · rw [hslotsEq, (hk n).span, hlen]
  · simpa only [hslotsEq] using hnodup
  · simpa only [hslotsEq, hheld] using hslots k
  · rw [hfree, freeSlots_of_held hheld, hcount]
  · rw [(hk n).span] at ho
    have hp : s.primed n o := (primed_of_kept hk).1 hp
    obtain ⟨hl, hu⟩ := hmarks n o ho hp
    have hat : (t.entry n).slotAt o = (s.entry n).slotAt o := by simp only [Entry.slotAt, hslotsEq]
    rw [hat, hl, hu]
    exact hclear n o ho hp
  · rw [State.slotsAccounted, hfree, heldSpans_of_kept hk]
    exact hsum

/-- Replacing an entry by one at its place, with its fields in agreement. -/
theorem tableWf_setEntry {s : State} (h : s.tableWf) {n : Index} {e : Entry} (hk : (s.entry n).Kept e) (he : e.wf) :
    (s.setEntry n e).tableWf := by
  refine tableWf_of_keeps h (keeps_setEntry hk) (fun m => ?_) (fun _ => rfl) (fun _ _ _ _ => ⟨rfl, rfl⟩) rfl fun _ => id
  rw [entry_setEntry]
  split
  · exact he
  · exact h.1.1 m

/-- An update that leaves the entries, the slots, the free count and the scrub claim alone. -/
theorem tableWf_congr {s t : State} (h : s.tableWf) (he : t.entries = s.entries) (hs : t.slots = s.slots)
    (hf : t.freeCount = s.freeCount) (hc : t.scrubber.claim = s.scrubber.claim) : t.tableWf :=
  tableWf_of_keeps h (keeps_of_entries he) (fun n => entry_of_entries he n ▸ h.1.1 n)
    (fun k => by rw [slot_of_slots hs]) (fun _ _ _ _ => by rw [slot_of_slots hs]; exact ⟨rfl, rfl⟩) hf
    fun c hct => hc ▸ hct

/-- Setting a shadow to a value leaves the table consistent (R9). -/
theorem tableWf_setShadow {s : State} (h : s.tableWf) (n : Index) (o : Nat) (v : Word) : (s.setShadow n o v).tableWf := by
  have hslot : ∀ k, ((s.setShadow n o v).slot k).held = (s.slot k).held ∧
      ((s.setShadow n o v).slot k).lowerKnown = (s.slot k).lowerKnown ∧
      ((s.setShadow n o v).slot k).upperKnown = (s.slot k).upperKnown := fun k => by
    simp only [State.setShadow, slot_setSlot]
    split
    next hk => rw [hk]; exact ⟨rfl, rfl, rfl⟩
    next => exact ⟨rfl, rfl, rfl⟩
  exact tableWf_of_keeps h (State.Keeps.refl s) h.1.1 (fun k => (hslot k).1) (fun _ _ _ _ => (hslot _).2) rfl fun _ => id

theorem emitFor_tableWf {s : State} (h : s.tableWf) {n : Index} (hf : (s.entry n).state ≠ .free) (kind : EventKind)
    (offset : BitVec 4) (old new : Word) (count : BitVec 16) : (s.emitFor n kind offset old new count).tableWf := by
  rw [emitFor_eq]
  exact tableWf_setEntry h (.of_eq rfl rfl rfl rfl rfl) (eventCounted_wf (h.1.1 n) hf _)

theorem emit_tableWf {s : State} (h : s.tableWf) (e : Event) : (s.emit e).tableWf := h

theorem meetTake_tableWf {s t : State} (h : t.tableWf) : (s.meetTake t).tableWf := h

/-! ## Host writes, ticks and flushes -/

/-- A write marks only the slot of an unprimed word (R14, R16). -/
theorem slotAfterWrite_marks {s : State} {w : HostWrite} {n : Index} (h : s.unprimed n w = false) :
    (s.slotAfterWrite w n).lowerKnown = (s.slot (s.writtenSlot w n)).lowerKnown ∧
      (s.slotAfterWrite w n).upperKnown = (s.slot (s.writtenSlot w n)).upperKnown := by
  simp [State.slotAfterWrite, h, State.writtenSlot]

theorem unprimed_of_primed {s : State} {w : HostWrite} {n : Index} (h : s.primed n ((s.entry n).offsetOf w.addr)) :
    s.unprimed n w = false := by
  rcases h with h | h
  · exact unprimed_of_ne_priming h w
  · simp [State.unprimed, h]

theorem writeAtEntry_tableWf {s : State} (h : s.tableWf) {w : HostWrite} {n : Index}
    (hn : (s.entry n).holds w.addr = true) : (State.writeAtEntry w n s).tableWf := by
  have hk := writeAtEntry_keeps s w n
  rw [writeAtEntry_eq s w n (not_free_of_holds hn)] at hk ⊢
  refine tableWf_of_keeps h hk (fun m => ?_) (fun k => ?_) (fun m o ho hp => ?_) rfl fun _ => id
  · rw [entry_emitAll, entry_setSlot, entry_setEntry]
    split
    · exact entryAfterWrite_wf (h.1.1 n) w
    · exact h.1.1 m
  · rw [slot_emitAll, slot_setSlot, slot_setEntry]
    split
    next hk => rw [hk]; rfl
    next => rfl
  · rw [slot_emitAll, slot_setSlot, slot_setEntry]
    split
    next hslot =>
      obtain ⟨rfl, rfl⟩ := slotAt_injective h.2.1 ho (offsetOf_lt hn) hslot
      exact slotAfterWrite_marks (unprimed_of_primed hp)
    next => exact ⟨rfl, rfl⟩

theorem evaluate_tableWf {s : State} (h : s.tableWf) (w : HostWrite) : (s.evaluate w).tableWf := by
  refine (forEach_induct (P := fun t => t.tableWf ∧ s.Keeps t) (s.holders w.addr) ⟨h, .refl s⟩ ?_).1
  rintro n hn t ⟨ht, hk⟩
  have hn : (t.entry n).holds w.addr = true := by rw [(hk n).holds]; exact mem_holders.1 hn
  exact ⟨writeAtEntry_tableWf ht hn, hk.trans (writeAtEntry_keeps t w n)⟩

theorem tickEntry_tableWf {s : State} (h : s.tableWf) (n : Index) : (State.tickEntry n s).tableWf := by
  have h1 : (s.tickHoldoff n).tableWf := by
    rw [tickHoldoff_eq]
    exact tableWf_setEntry h (afterHoldoffTick_kept _) (afterHoldoffTick_wf (h.1.1 n))
  simp only [State.tickEntry]
  rw [tickDeadline_eq]
  exact tableWf_setEntry h1 (afterDeadlineTick_kept _) (afterDeadlineTick_wf (h1.1.1 n))

theorem flushMerge_tableWf {s : State} (h : s.tableWf) {n : Index} (hf : (s.entry n).state ≠ .free) :
    (s.flushMerge n).tableWf := by
  rw [flushMerge_eq]
  exact tableWf_setEntry h (flushed_kept _) (flushed_wf (h.1.1 n) hf)

theorem flushRequest_tableWf {s : State} (h : s.tableWf) : s.flushRequest.tableWf := by
  refine (forEach_induct (P := fun t => t.tableWf ∧ s.Keeps t) s.mergers ⟨h, .refl s⟩ ?_).1
  rintro n hn t ⟨ht, hk⟩
  have hf : (t.entry n).state ≠ .free := mt (hk n).free.1 (not_free_of_armed (mem_mergers.1 hn).1)
  rw [reportMerge_eq]
  exact ⟨tableWf_setEntry ht (reported_kept _) (reported_wf (ht.1.1 n) hf),
    hk.trans (keeps_setEntry (reported_kept _))⟩

/-! ## The Scrubber -/

/-- The word of an eligible position (R149). -/
theorem scrubClaimOf_wf {s : State} (h : s.tableWf) {p : Index × BitVec 4} (hp : s.eligible p = true) {c : ScrubClaim}
    (hc : c = s.scrubClaimOf p) :
    ((s.entry c.entry).state = .armed ∨ (s.entry c.entry).state = .suspended) ∧
      c.offset.toNat < (s.entry c.entry).span.toNat ∧
      c.addr.toNat = (s.entry c.entry).base.toNat + c.offset.toNat := by
  subst hc
  simp only [State.eligible, Bool.and_eq_true, decide_eq_true_eq, Entry.scrubbed, Bool.or_eq_true, beq_iff_eq] at hp
  obtain ⟨hst, ho⟩ := hp
  have hf : (s.entry p.1).state ≠ .free := fun hf => by simp [hf] at hst
  have hin := (legal_of_wf (h.1.1 p.1) hf).2.2.1
  refine ⟨hst, ho, ?_⟩
  simp only [State.scrubClaimOf, BitVec.toNat_add, BitVec.truncate_eq_setWidth, BitVec.toNat_setWidth]
  omega

theorem expireScrub_tableWf {s : State} (h : s.tableWf) : s.expireScrub.tableWf := by
  unfold State.expireScrub
  dsimp only
  split
  · exact h
  · split
    · exact h
    next p hp =>
      refine ⟨⟨h.1.1, fun c hc _ => ?_⟩, h.2⟩
      exact scrubClaimOf_wf h (List.find?_some hp) (Option.some.inj hc).symm

theorem tickScrub_tableWf {s : State} (h : s.tableWf) : s.tickScrub.tableWf := by
  unfold State.tickScrub
  split
  · exact expireScrub_tableWf h
  · split <;> exact h

theorem makeTick_tableWf {s : State} (h : s.tableWf) : s.makeTick.tableWf :=
  meetTake_tableWf (tickScrub_tableWf (forEach_induct (P := State.tableWf) _ h fun n _ _ ht => tickEntry_tableWf ht n))

/-- A claim that is taken leaves no claim. -/
theorem unclaimed_tableWf {s : State} (h : s.tableWf) :
    State.tableWf { s with scrubber := { s.scrubber with claim := none } } :=
  ⟨⟨h.1.1, fun _ hc => by simp at hc⟩, h.2⟩

theorem scrubReadTaken_tableWf {s : State} (h : s.tableWf) {c : ScrubClaim} (hc : s.scrubber.claim = some c) :
    (s.scrubReadTaken c).tableWf := by
  have h1 := unclaimed_tableWf h
  unfold State.scrubReadTaken
  dsimp only
  split
  · exact h1
  next hd =>
    have hv : c.void = false := by
      simp only [Bool.or_eq_true, not_or, Bool.not_eq_true] at hd
      exact hd.1
    obtain ⟨hst, -⟩ := h.1.2 c hc hv
    have hf : (s.entry c.entry).state ≠ .free := fun hf => by simp [hf] at hst
    exact meetTake_tableWf (tableWf_setShadow (emitFor_tableWf h1 hf _ _ _ _ _) _ _ _)

/-! ## Requests -/

theorem suspendRequest_eq_of_armed {s : State} {n : Index} (ha : (s.entry n).state = .armed) :
    s.suspendRequest n = ((s.setEntry n (s.entry n).suspend).emitAll (s.flushEvents n), .done) := by
  simp [State.suspendRequest, ha, flushToQuiet_eq, Entry.suspend]

theorem resumeRequest_eq_of_suspended {s : State} {n : Index} (hs : (s.entry n).state = .suspended) :
    s.resumeRequest n = (s.setEntry n (s.entry n).resume, .done) := by
  simp [State.resumeRequest, hs, Entry.resume]

theorem retuneRequest_eq_of_check {s : State} {n : Index} {d : Descriptor} (h : s.retuneCheck n d = none) :
    s.retuneRequest n d = ((s.setEntry n ((s.entry n).retune d)).emitAll (s.flushEvents n), .done) := by
  simp [State.retuneRequest, h, flushToQuiet_eq, Entry.retune]

theorem retuneCheck_none {s : State} {n : Index} {d : Descriptor} (h : s.retuneCheck n d = none) :
    ((s.entry n).state = .armed ∨ (s.entry n).state = .suspended) ∧ ¬d.isIllegal ∧ (s.entry n).base = d.base ∧
      (s.entry n).span = d.span := by
  unfold State.retuneCheck at h
  dsimp only at h
  rw [← illegal_iff]
  cases hst : (s.entry n).state <;> simp_all <;> split at h <;> simp_all

theorem suspendRequest_tableWf {s : State} (h : s.tableWf) (n : Index) : (s.suspendRequest n).1.tableWf := by
  cases hst : (s.entry n).state
  case armed =>
    rw [suspendRequest_eq_of_armed hst]
    exact tableWf_setEntry h (suspend_kept hst) (suspend_wf (h.1.1 n) hst)
  all_goals simpa [State.suspendRequest, hst] using h

theorem resumeRequest_tableWf {s : State} (h : s.tableWf) (n : Index) : (s.resumeRequest n).1.tableWf := by
  cases hst : (s.entry n).state
  case suspended =>
    rw [resumeRequest_eq_of_suspended hst]
    exact tableWf_setEntry h (resume_kept hst) (resume_wf (h.1.1 n) hst)
  all_goals simpa [State.resumeRequest, hst] using h

theorem retuneRequest_tableWf {s : State} (h : s.tableWf) (n : Index) (d : Descriptor) :
    (s.retuneRequest n d).1.tableWf := by
  cases hc : s.retuneCheck n d
  case none =>
    obtain ⟨hst, hd, hb, hn⟩ := retuneCheck_none hc
    rw [retuneRequest_eq_of_check hc]
    exact tableWf_setEntry h (retune_kept _ d) (retune_wf hst hd hb hn)
  case some => simpa [State.retuneRequest, hc] using h

/-! ## Freeing an entry -/

/-- Writing slots changes the slots only. -/
theorem foldl_setSlot_eq (f : Slot → Slot) (ks : List SlotNumber) (s : State) :
    ks.foldl (fun t k => t.setSlot k (f (t.slot k))) s =
      { s with slots := (ks.foldl (fun t k => t.setSlot k (f (t.slot k))) s).slots } := by
  induction ks generalizing s with
  | nil => rfl
  | cons k ks ih =>
    rw [List.foldl_cons, ih]
    rfl

theorem releaseSlots_eq (s : State) (ks : List SlotNumber) (span : Nat) :
    s.releaseSlots ks span = { s with slots := (s.releaseSlots ks span).slots, freeCount := s.freeCount + span } := by
  unfold State.releaseSlots
  rw [foldl_setSlot_eq fun v => { v with held := false }]

theorem claimSlots_eq (s : State) (ks : List SlotNumber) :
    s.claimSlots ks = { s with slots := (s.claimSlots ks).slots, freeCount := s.freeCount - ks.length } := by
  unfold State.claimSlots
  rw [foldl_setSlot_eq fun _ => ⟨0, false, false, true⟩]

/-- Freeing an entry changes the entry, its slots, the free count and the Scrubber only (R7, R151). -/
theorem freeEntry_eq (s : State) (n : Index) :
    s.freeEntry n = { s.setEntry n .free with
      slots := (s.freeEntry n).slots
      freeCount := s.freeCount + (s.entry n).span.toNat
      scrubber := s.scrubber.voidClaim n } := by
  unfold State.freeEntry
  dsimp only
  rw [releaseSlots_eq]
  rfl

theorem entry_freeEntry (s : State) (n m : Index) : (s.freeEntry n).entry m = if m = n then .free else s.entry m := by
  rw [freeEntry_eq]
  exact entry_setEntry s n m .free

theorem slot_freeEntry (s : State) (n : Index) (k : SlotNumber) :
    (s.freeEntry n).slot k = if k ∈ (s.entry n).slots then { s.slot k with held := false } else s.slot k :=
  slot_releaseSlots s (s.entry n).slots (s.entry n).span.toNat k

theorem scrubber_freeEntry (s : State) (n : Index) : (s.freeEntry n).scrubber = s.scrubber.voidClaim n := by
  rw [freeEntry_eq]

theorem freeCount_freeEntry (s : State) (n : Index) :
    (s.freeEntry n).freeCount = s.freeCount + (s.entry n).span.toNat := by
  rw [freeEntry_eq]

/-- A claim that is not void after the claims of entry n are voided is of another entry (R151). -/
theorem voidClaim_nonvoid {sc : Scrubber} {n : Index} {c : ScrubClaim} (h : (sc.voidClaim n).claim = some c)
    (hv : c.void = false) : sc.claim = some c ∧ c.entry ≠ n := by
  simp only [Scrubber.voidClaim, Option.map_eq_some_iff] at h
  obtain ⟨d, hd, rfl⟩ := h
  split at hv
  · simp at hv
  next hne => rw [if_neg hne]; exact ⟨hd, hne⟩

theorem freeEntry_tableWf {s : State} (h : s.tableWf) {n : Index} (hf : (s.entry n).state ≠ .free) :
    (s.freeEntry n).tableWf := by
  obtain ⟨⟨hwf, hscrub⟩, ⟨hlen, hnodup, hheld, hcount, hclear⟩, hsum⟩ := h
  obtain ⟨hone, htwo⟩ := (slots_nodup_iff s).1 hnodup
  have hother : ∀ m, m ≠ n → (s.freeEntry n).entry m = s.entry m := fun m hm => by rw [entry_freeEntry, if_neg hm]
  have hself : (s.freeEntry n).entry n = .free := by rw [entry_freeEntry, if_pos rfl]
  have hcases : ∀ {P : Entry → Prop}, P .free → (∀ m, P (s.entry m)) → ∀ m, P ((s.freeEntry n).entry m) := by
    intro P hP hs m
    rw [entry_freeEntry]
    split
    · exact hP
    · exact hs m
  refine ⟨⟨hcases wf_free hwf, fun c hc hv => ?_⟩, ⟨hcases (P := fun e => e.slots.length = e.span.toNat) rfl hlen, ?_, fun k => ?_, ?_, fun m o ho hp => ?_⟩, ?_⟩
  · rw [scrubber_freeEntry] at hc
    obtain ⟨hc, hne⟩ := voidClaim_nonvoid hc hv
    rw [hother _ hne]
    exact hscrub c hc hv
  · refine (slots_nodup_iff _).2 ⟨hcases (P := fun e => e.slots.Nodup) List.nodup_nil hone, fun m p hmp => ?_⟩
    rw [entry_freeEntry, entry_freeEntry]
    split
    · exact List.disjoint_nil_left _
    · split
      · exact List.disjoint_nil_right _
      · exact htwo m p hmp
  · rw [slot_freeEntry]
    split
    next hk =>
      refine iff_of_false (by simp) ?_
      rintro ⟨m, hm⟩
      by_cases hmn : m = n
      · rw [hmn, hself] at hm
        exact absurd hm (List.not_mem_nil)
      · rw [hother m hmn] at hm
        exact htwo m n hmn hm hk
    next hk =>
      rw [hheld]
      refine exists_congr fun m => ?_
      by_cases hmn : m = n
      · rw [hmn, hself]
        exact iff_of_false hk (List.not_mem_nil)
      · rw [hother m hmn]
  · rw [freeSlots_length_released (hone n) (fun k hk => (hheld k).2 ⟨n, hk⟩) fun k => by
      rw [slot_freeEntry]; split <;> rfl, hlen, ← hcount, freeCount_freeEntry]
  · by_cases hmn : m = n
    · rw [hmn, hself] at ho
      exact absurd ho (Nat.not_lt_zero _)
    · rw [hother m hmn] at ho hp ⊢
      have hmem : (s.entry m).slotAt o ∉ (s.entry n).slots :=
        fun hk => htwo m n hmn (slotAt_mem (by rwa [hlen])) hk
      rw [slot_freeEntry, if_neg hmem]
      exact hclear m o ho hp
  · have hs := heldSpans_update n hother
    rw [hself] at hs
    simp only [Entry.heldSpan, if_neg hf] at hs
    simp only [State.slotsAccounted, freeCount_freeEntry] at hsum ⊢
    simp only [Entry.heldSpan] at hsum ⊢
    simp only [Entry.free, if_true] at hs
    omega

theorem disarmRequest_eq {s : State} {n : Index} (h : (s.entry n).state = .armed ∨ (s.entry n).state = .suspended) :
    s.disarmRequest n = ((s.flushMerge n).freeEntry n, .done) := by
  rcases h with h | h <;> simp [State.disarmRequest, h]

theorem disarmRequest_tableWf {s : State} (h : s.tableWf) (n : Index) : (s.disarmRequest n).1.tableWf := by
  by_cases hst : (s.entry n).state = .armed ∨ (s.entry n).state = .suspended
  · have hf : (s.entry n).state ≠ .free := by rcases hst with h | h <;> simp [h]
    rw [disarmRequest_eq hst]
    refine freeEntry_tableWf (flushMerge_tableWf h hf) ?_
    rw [flushMerge_eq, entry_emitAll, entry_setEntry_same]
    exact mt (flushed_kept _).free.1 hf
  · rw [not_or] at hst
    cases hs : (s.entry n).state <;> simp_all [State.disarmRequest]

end Sys2Proof.Machine
end

section
/-! PROOFS. Every step keeps the Watch Table, the Shadow Store and the scrub claim consistent (O57): loads, prime reads,
resets, and the whole. -/

namespace Sys2Proof.Machine

/-! ## Loading an entry -/

/-- A LOAD that passes its checks changes the entry, its slots and the free count only (R6, R12). -/
theorem loadEntry_eq (s : State) (n : Index) (d : Descriptor) :
    s.loadEntry n d = { s.setEntry n (loadedEntry d (s.freeSlots.take d.span.toNat)) with
      slots := (s.loadEntry n d).slots
      freeCount := s.freeCount - (s.freeSlots.take d.span.toNat).length } := by
  unfold State.loadEntry
  dsimp only
  rw [claimSlots_eq]
  rfl

theorem entry_loadEntry (s : State) (n m : Index) (d : Descriptor) :
    (s.loadEntry n d).entry m = if m = n then loadedEntry d (s.freeSlots.take d.span.toNat) else s.entry m := by
  rw [loadEntry_eq]
  exact entry_setEntry s n m _

theorem slot_loadEntry (s : State) (n : Index) (d : Descriptor) (k : SlotNumber) :
    (s.loadEntry n d).slot k = if k ∈ s.freeSlots.take d.span.toNat then ⟨0, false, false, true⟩ else s.slot k :=
  slot_claimSlots s _ k

theorem freeCount_loadEntry (s : State) (n : Index) (d : Descriptor) :
    (s.loadEntry n d).freeCount = s.freeCount - (s.freeSlots.take d.span.toNat).length := by
  rw [loadEntry_eq]

theorem loadCheck_none {s : State} {n : Index} {d : Descriptor} (h : s.loadCheck n d = none) :
    (s.entry n).state = .free ∧ ¬d.isIllegal ∧ d.span.toNat ≤ s.freeCount ∧
      s.forbidden d.base.toNat d.span.toNat = false := by
  unfold State.loadCheck at h
  rw [← illegal_iff]
  split at h
  · cases h
  next hf =>
    split at h
    · cases h
    next hi =>
      split at h
      · cases h
      next hc =>
        split at h
        · cases h
        next ho => exact ⟨not_not.1 hf, hi, Nat.le_of_not_lt hc, by simpa using ho⟩

theorem claimed_length {s : State} (h : s.slotsWf) {k : Nat} (hk : k ≤ s.freeCount) : (s.freeSlots.take k).length = k := by
  rw [List.length_take, ← h.2.2.2.1]
  exact min_eq_left hk

/-- A free slot is no entry's (R5). -/
theorem not_mem_of_free {s : State} (h : s.slotsWf) {k : SlotNumber} (hk : k ∈ s.freeSlots) (n : Index) :
    k ∉ (s.entry n).slots := fun hm => by
  rw [mem_freeSlots, (h.2.2.1 k).2 ⟨n, hm⟩] at hk
  cases hk

theorem loadEntry_tableWf {s : State} (h : s.tableWf) {n : Index} {d : Descriptor} (hc : s.loadCheck n d = none) :
    (s.loadEntry n d).tableWf := by
  obtain ⟨⟨hwf, hscrub⟩, hslots, hsum⟩ := h
  obtain ⟨hlen, hnodup, hheld, hcount, hclear⟩ := id hslots
  obtain ⟨hone, htwo⟩ := (slots_nodup_iff s).1 hnodup
  obtain ⟨hfree, hlegal, hroom, -⟩ := loadCheck_none hc
  have hks := claimed_length hslots hroom
  have hnew : ∀ k ∈ s.freeSlots.take d.span.toNat, k ∈ s.freeSlots := fun k hk => List.mem_of_mem_take hk
  have hempty : s.entry n = Entry.free := (hwf n).1 hfree
  have hother : ∀ m, m ≠ n → (s.loadEntry n d).entry m = s.entry m := fun m hm => by rw [entry_loadEntry, if_neg hm]
  have hself : (s.loadEntry n d).entry n = loadedEntry d (s.freeSlots.take d.span.toNat) := by
    rw [entry_loadEntry, if_pos rfl]
  have hcases : ∀ {P : Entry → Prop}, P (loadedEntry d (s.freeSlots.take d.span.toNat)) → (∀ m, P (s.entry m)) →
      ∀ m, P ((s.loadEntry n d).entry m) := by
    intro P hP hs m
    rw [entry_loadEntry]
    split
    · exact hP
    · exact hs m
  refine ⟨⟨hcases (loadedEntry_wf hlegal _) hwf, fun c hcl hv => ?_⟩,
    ⟨hcases (P := fun e => e.slots.length = e.span.toNat) hks hlen, ?_, fun k => ?_, ?_, fun m o ho hp => ?_⟩, ?_⟩
  · rw [loadEntry_eq] at hcl
    obtain ⟨hst, hrest⟩ := hscrub c hcl hv
    have hne : c.entry ≠ n := by
      intro he
      rw [he, hfree] at hst
      simp at hst
    rw [hother _ hne]
    exact ⟨hst, hrest⟩
  · refine (slots_nodup_iff _).2
      ⟨hcases (P := fun e => e.slots.Nodup) ((List.take_sublist _ _).nodup (freeSlots_nodup s)) hone, fun m p hmp => ?_⟩
    by_cases hm : m = n
    · rw [hm, hself, hother p (hm ▸ hmp.symm)]
      exact fun k hk => not_mem_of_free hslots (hnew k hk) p
    · by_cases hp : p = n
      · rw [hp, hself, hother m hm]
        exact fun k hk hk' => not_mem_of_free hslots (hnew k hk') m hk
      · rw [hother m hm, hother p hp]
        exact htwo m p hmp
  · rw [slot_loadEntry]
    split
    next hk => exact iff_of_true rfl ⟨n, by rw [hself]; exact hk⟩
    next hk =>
      rw [hheld]
      refine exists_congr fun m => ?_
      by_cases hm : m = n
      · rw [hm, hself, hempty]
        exact iff_of_false List.not_mem_nil hk
      · rw [hother m hm]
  · rw [freeSlots_length_claimed (s := s) ((List.take_sublist _ _).nodup (freeSlots_nodup s)) hnew fun k => by
      rw [slot_loadEntry]; split <;> rfl, freeCount_loadEntry, hcount]
  · by_cases hm : m = n
    · rw [hm, hself] at hp
      exact absurd hp (by simp [loadedEntry, Entry.withRule, Entry.free])
    · rw [hother m hm] at ho hp ⊢
      have hmem : (s.entry m).slotAt o ∉ s.freeSlots.take d.span.toNat :=
        fun hk => not_mem_of_free hslots (hnew _ hk) m (slotAt_mem (by rwa [hlen]))
      rw [slot_loadEntry, if_neg hmem]
      exact hclear m o ho hp
  · have hs := heldSpans_update n hother
    have hspan : (loadedEntry d (s.freeSlots.take d.span.toNat)).heldSpan = d.span.toNat := rfl
    have hzero : Entry.free.heldSpan = 0 := rfl
    rw [hself, hempty, hspan, hzero] at hs
    simp only [State.slotsAccounted, freeCount_loadEntry, hks] at hsum ⊢
    omega

/-! ## Prime reads -/

/-- A slot after a prime read of an offset of entry n (R15). -/
theorem slot_primeShadow (s : State) (n : Index) (o : Nat) (w : Word) (k : SlotNumber) :
    ((s.primeShadow n o w).slot k).held = (s.slot k).held ∧
      ((s.primeShadow n o w).slot k).lowerKnown =
        (if k = (s.entry n).slotAt o then false else (s.slot k).lowerKnown) ∧
      ((s.primeShadow n o w).slot k).upperKnown =
        (if k = (s.entry n).slotAt o then false else (s.slot k).upperKnown) := by
  simp only [State.primeShadow, slot_setSlot]
  split
  next hk => rw [hk]; exact ⟨rfl, rfl, rfl⟩
  next => exact ⟨rfl, rfl, rfl⟩

/-- A prime read of the next offset of a PRIMING entry (R13, R15): the entry keeps its words and its slots, and only
words up to the one read are primed after it. -/
theorem primeShadow_tableWf {s : State} (h : s.tableWf) {n : Index} (hst : (s.entry n).state = .priming) (w : Word)
    {e : Entry} (he : e.wf) (hf : e.state ≠ .free) (hb : e.base = (s.entry n).base) (hn : e.span = (s.entry n).span)
    (hl : e.slots = (s.entry n).slots)
    (hp : ∀ o < e.span.toNat, e.state ≠ .priming ∨ o < e.primeProgress.toNat → o ≤ (s.entry n).primeProgress.toNat) :
    ((s.primeShadow n (s.entry n).primeProgress.toNat w).setEntry n e).tableWf := by
  obtain ⟨⟨hwf, hscrub⟩, hslotsWf, hsum⟩ := h
  obtain ⟨hlen, hnodup, hheld, hcount, hclear⟩ := id hslotsWf
  generalize hk : (s.entry n).primeProgress.toNat = k at *
  have hentry : ∀ m, ((s.primeShadow n k w).setEntry n e).entry m = if m = n then e else s.entry m := fun m =>
    entry_setEntry (s.primeShadow n k w) n m e
  have hother : ∀ m, m ≠ n → ((s.primeShadow n k w).setEntry n e).entry m = s.entry m := fun m hm => by
    rw [hentry, if_neg hm]
  have hself : ((s.primeShadow n k w).setEntry n e).entry n = e := by rw [hentry, if_pos rfl]
  have hslots : ∀ m, (((s.primeShadow n k w).setEntry n e).entry m).slots = (s.entry m).slots := fun m => by
    by_cases hm : m = n
    · rw [hm, hself, hl]
    · rw [hother m hm]
  have hspan : ∀ m, (((s.primeShadow n k w).setEntry n e).entry m).span = (s.entry m).span := fun m => by
    by_cases hm : m = n
    · rw [hm, hself, hn]
    · rw [hother m hm]
  have hslot := slot_primeShadow s n k w
  refine ⟨⟨fun m => ?_, fun c hc hv => ?_⟩, ⟨fun m => ?_, ?_, fun i => ?_, ?_, fun m o ho hpr => ?_⟩, ?_⟩
  · rw [hentry]
    split
    · exact he
    · exact hwf m
  · obtain ⟨hs, hrest⟩ := hscrub c hc hv
    have hne : c.entry ≠ n := by
      intro hcn
      rw [hcn, hst] at hs
      simp at hs
    rw [hother _ hne]
    exact ⟨hs, hrest⟩
  · rw [hslots, hspan, hlen]
  · simpa only [hslots] using hnodup
  · simpa only [hslots, slot_setEntry, (hslot i).1] using hheld i
  · exact hcount.trans (congrArg List.length (freeSlots_of_held fun i => (hslot i).1).symm)
  · have hat : (((s.primeShadow n k w).setEntry n e).entry m).slotAt o = (s.entry m).slotAt o := by
      simp only [Entry.slotAt, hslots]
    rw [hspan] at ho
    rw [hat, slot_setEntry, (hslot _).2.1, (hslot _).2.2]
    split
    · exact ⟨rfl, rfl⟩
    next hne =>
      by_cases hm : m = n
      · rw [hm, hself] at hpr
        subst hm
        have hok : o ≤ k := hp o (by rwa [hn]) hpr
        have hne : o ≠ k := fun hok => hne (by rw [hok])
        exact hclear m o ho (.inr (by omega))
      · rw [hother m hm] at hpr
        exact hclear m o ho hpr
  · have hs := heldSpans_update (s := s) n hother
    have hspanEq : e.heldSpan = (s.entry n).heldSpan := by
      simp only [Entry.heldSpan, if_neg hf, hst, reduceCtorEq, if_false, hn]
    rw [hself, hspanEq] at hs
    have hfree : ((s.primeShadow n k w).setEntry n e).freeCount = s.freeCount := rfl
    simp only [State.slotsAccounted, hfree] at hsum ⊢
    omega

theorem primeProgress_succ {e : Entry} (h : e.wf) (hs : e.state = .priming) :
    (e.primeProgress + 1).toNat = e.primeProgress.toNat + 1 := by
  have hlt := h.2.2.2.2.2.2.2.2.2 hs
  have hle := (legal_of_wf h (by simp [hs])).2.1
  rw [BitVec.toNat_add]
  simpa using by omega

theorem primeReadClaim_priming {s : State} {n : Index} (h : s.primeReadClaim = some n) :
    s.proc.claim = some .work ∧ s.proc.state = .filling ∧ (s.entry n).state = .priming ∧
      ∃ c, s.proc.slot = some c ∧ c.operand = n := by
  unfold State.primeReadClaim at h
  split at h
  next hc =>
    split at h
    next c hs =>
      split at h
      next hp =>
        cases h
        exact ⟨hc.1, hc.2, hp, c, hs, rfl⟩
      next => cases h
    next => cases h
  next => cases h

/-- An entry after a prime read of its next offset, before priming can end (R13). -/
def Entry.advanced (e : Entry) : Entry := { e with primeProgress := e.primeProgress + 1 }

/-- The word of a prime read (R13). -/
def State.primeWord (s : State) (n : Index) : Word :=
  s.readWord ((s.entry n).base + BitVec.ofNat 20 (s.entry n).primeProgress.toNat)

/-- A prime read that is not the last (R13, R15). -/
theorem primeReadTaken_next {s : State} {n : Index}
    (h : (s.entry n).primeProgress.toNat + 1 < (s.entry n).span.toNat) :
    s.primeReadTaken n =
      ((s.primeShadow n (s.entry n).primeProgress.toNat (s.primeWord n)).setEntry n (s.entry n).advanced).setProc
        { s.proc with claim := none } := by
  unfold State.primeReadTaken
  exact if_pos h

/-- The last prime read (R15, R17). -/
theorem primeReadTaken_last {s : State} {n : Index}
    (h : ¬(s.entry n).primeProgress.toNat + 1 < (s.entry n).span.toNat) :
    s.primeReadTaken n =
      { (s.primeShadow n (s.entry n).primeProgress.toNat (s.primeWord n)).setEntry n (s.entry n).advanced.primed with
        proc := { s.proc with claim := none } }.publish .done := by
  unfold State.primeReadTaken
  exact if_neg h

theorem primeReadTaken_tableWf {s : State} (h : s.tableWf) {n : Index} (hst : (s.entry n).state = .priming) :
    (s.primeReadTaken n).tableWf := by
  have hw := h.1.1 n
  have hsucc : (s.entry n).advanced.primeProgress.toNat = (s.entry n).primeProgress.toNat + 1 :=
    primeProgress_succ hw hst
  by_cases hlast : (s.entry n).primeProgress.toNat + 1 < (s.entry n).span.toNat
  · rw [primeReadTaken_next hlast]
    refine primeShadow_tableWf h hst (s.primeWord n) (primeProgress_wf hw hst (hsucc.trans_lt hlast))
      (by simp [Entry.advanced, hst]) rfl rfl rfl ?_
    rintro o - (hp | hp)
    · exact absurd hst hp
    · omega
  · rw [primeReadTaken_last hlast]
    obtain ⟨hb, hn, hl⟩ := primed_place (s.entry n).advanced
    refine primeShadow_tableWf h hst (s.primeWord n) (primed_wf hw hst _) ?_ hb hn hl ?_
    · rcases primed_state (s.entry n).advanced with h | h <;> simp [h]
    · intro o ho _
      have ho : o < (s.entry n).span.toNat := hn ▸ ho
      omega

/-! ## Resets -/

theorem entry_reset {s : State} (h : s.entries = Vector.replicate 64 .free) (n : Index) : s.entry n = .free := by
  simp [State.entry, h]

theorem slot_reset {s : State} (h : s.slots = Vector.replicate 256 .reset) (k : SlotNumber) : s.slot k = .reset := by
  simp [State.slot, h]

/-- The table after a reset is consistent (R5, R7, R23). -/
theorem tableWf_of_reset {s : State} (he : s.entries = Vector.replicate 64 .free)
    (hs : s.slots = Vector.replicate 256 .reset) (hf : s.freeCount = Config.shadowSlots)
    (hc : s.scrubber.claim = none) : s.tableWf := by
  have hentry := entry_reset he
  have hslot := slot_reset hs
  have hfree : s.freeSlots = slotNumbers := by
    simp only [State.freeSlots, hslot, Slot.reset, Bool.not_false, List.filter_true]
  refine ⟨⟨fun n => hentry n ▸ wf_free, fun c hcc => by simp [hc] at hcc⟩, ⟨fun n => ?_, ?_, fun k => ?_, ?_,
    fun n o ho => ?_⟩, ?_⟩
  · rw [hentry]; rfl
  · refine (slots_nodup_iff s).2 ⟨fun n => ?_, fun n m _ => ?_⟩
    · rw [hentry]; exact List.nodup_nil
    · rw [hentry n]; exact List.disjoint_nil_left _
  · simp [hslot, hentry, Slot.reset, Entry.free]
  · simp [hfree, hf, slotNumbers, Config.shadowSlots]
  · rw [hentry] at ho
    exact absurd ho (Nat.not_lt_zero _)
  · simp [State.slotsAccounted, hf, hentry, Entry.heldSpan, Entry.free]

theorem pinResetValues_tableWf (s : State) (b : Bool) : (s.pinResetValues b).tableWf := tableWf_of_reset rfl rfl rfl rfl

theorem restart_tableWf (s : State) (tag : CommandTag) : (s.restart tag).tableWf := tableWf_of_reset rfl rfl rfl rfl

/-! ## Acts -/

theorem takeCommand_tableWf {s : State} (h : s.tableWf) (c : CommandSlot) : (s.takeCommand c).tableWf := by
  unfold State.takeCommand
  split
  case h_2 => exact disarmRequest_tableWf h c.operand
  case h_3 => exact suspendRequest_tableWf h c.operand
  case h_4 => exact resumeRequest_tableWf h c.operand
  case h_7 => exact flushRequest_tableWf h
  all_goals exact h

theorem examine_tableWf {s : State} (h : s.tableWf) (lanes : Lanes) (data : Word) : (s.examine lanes data).tableWf := by
  unfold State.examine
  split
  · exact h
  · split
    · exact h
    · split
      · exact h
      · split
        · exact restart_tableWf s _
        · split
          · exact takeCommand_tableWf h _
          · exact h

theorem takeConsume_tableWf {s : State} (h : s.tableWf) (lanes : Lanes) (data : Word) :
    (s.takeConsume lanes data).tableWf := by
  unfold State.takeConsume
  dsimp only
  split <;> exact h

theorem consumeAndEvaluate_tableWf {s : State} (h : s.tableWf) (w : HostWrite) : (s.consumeAndEvaluate w).tableWf := by
  have h1 := takeConsume_tableWf h w.lanes w.data
  have hjudged := evaluate_tableWf h1 w
  unfold State.consumeAndEvaluate
  dsimp only
  split
  · split
    · exact emit_tableWf hjudged _
    · refine tableWf_congr (s := if _ then _ else _) ?_ rfl rfl rfl rfl
      split
      · exact evaluate_tableWf (emit_tableWf h1 _) w
      · exact emit_tableWf hjudged _
  · exact hjudged

theorem hostWriteTaken_tableWf {s : State} (h : s.tableWf) (w : HostWrite) : (s.hostWriteTaken w).tableWf := by
  refine meetTake_tableWf ?_
  unfold State.announceWrite
  have hmem : State.tableWf { s with mem := Memory.writeLanes s.mem w.addr w.lanes w.data } := h
  dsimp only
  have hjudged := evaluate_tableWf hmem w
  split
  · exact hmem
  · split
    · exact consumeAndEvaluate_tableWf hmem w
    · split
      · exact examine_tableWf hjudged _ _
      · exact hjudged

theorem finishReading_tableWf {s : State} (h : s.tableWf) (c : CommandSlot) (ws : List Word) :
    (s.finishReading c ws).tableWf := by
  unfold State.finishReading
  split
  · unfold State.finishLoad
    split
    · exact h
    next hc => exact loadEntry_tableWf h hc
  · exact retuneRequest_tableWf h c.operand (descriptorOf ws)
  · exact h
  · unfold State.finishJournal
    split <;> exact h
  · unfold State.finishTimebase
    split <;> exact h

theorem commandReadTaken_tableWf {s : State} (h : s.tableWf) (c : CommandSlot) : (s.commandReadTaken c).tableWf := by
  unfold State.commandReadTaken
  dsimp only
  split
  · exact h
  · refine meetTake_tableWf (finishReading_tableWf ?_ c _)
    exact h

theorem takeInstallRequest_tableWf {s : State} (h : s.tableWf) : s.takeInstallRequest.tableWf := by
  unfold State.takeInstallRequest
  split
  · split <;> exact h
  · exact h

theorem begin_tableWf {s : State} (h : s.tableWf) : s.begin.tableWf := by
  unfold State.begin
  split <;> exact h

theorem install_tableWf {s : State} (h : s.tableWf) (r : InstallRequest) : (s.install r).tableWf := by
  refine tableWf_congr h ?_ ?_ ?_ ?_ <;>
    · unfold State.install
      simp only [State.publish, State.setProc, State.setJournal]
      split <;> rfl

/-- Every act keeps the Watch Table, the Shadow Store and the scrub claim consistent. -/
theorem act_tableWf {s t : State} (hact : Act s t) (h : s.tableWf) : t.tableWf := by
  cases hact with
  | pinReset => exact pinResetValues_tableWf s true
  | release => exact pinResetValues_tableWf s false
  | hostWrite w => exact hostWriteTaken_tableWf h w
  | commandRead c => exact commandReadTaken_tableWf h c
  | primeRead n hn => exact primeReadTaken_tableWf h (primeReadClaim_priming hn).2.2.1
  | beginRecord => exact begin_tableWf h
  | installRequest => exact takeInstallRequest_tableWf h
  | installation r => exact install_tableWf h r
  | tick => exact makeTick_tableWf h
  | scrubRead c hc => exact scrubReadTaken_tableWf h hc
  | grant => exact tableWf_congr h (by simp) (by simp) (by simp) (by simp)
  | dequeue | store | readOut | present | freePort | snapshotWord | completion | refusal | startup | recordWord
  | publication | phase => exact h

/-- Settles O57: every act keeps the table consistent, and a step is a sequence of acts. -/
theorem stepsKeepWatchTable : Obligations.StepsKeepWatchTable := by
  intro s t hstep he hs ha
  exact step_keeps (P := State.tableWf) (fun _ _ => act_tableWf) hstep ⟨he, hs, ha⟩

end Sys2Proof.Machine
end

section
/-! PROOFS. Every step keeps watched words out of the forbidden places (the second half of O59). -/

namespace Sys2Proof.Machine

/-! ## Acts that bring no word into a forbidden place -/

/-- The ring an install request names. -/
def InstallRequest.ring (r : InstallRequest) : Addr × Nat × Format := (r.base, r.length, r.format)

/-- Two Journal Writers have the same ring, and install requests for the same ring. -/
structure Journal.SameRings (j j' : Journal) : Prop where
  base : j'.base = j.base
  length : j'.length = j.length
  format : j'.format = j.format
  install : j'.install.map InstallRequest.ring = j.install.map InstallRequest.ring

theorem Journal.SameRings.refl (j : Journal) : j.SameRings j := ⟨rfl, rfl, rfl, rfl⟩

theorem Journal.SameRings.trans {i j k : Journal} (h : i.SameRings j) (h' : j.SameRings k) : i.SameRings k :=
  ⟨h'.base.trans h.base, h'.length.trans h.length, h'.format.trans h.format, h'.install.trans h.install⟩

theorem Journal.SameRings.isSome {j j' : Journal} (h : j.SameRings j') : j'.install.isSome = j.install.isSome := by
  simpa using congrArg Option.isSome h.install

/-- An act frees entries or leaves their words alone, makes none PRIMING, and keeps the ring and the control block. -/
structure State.PlacesKept (s t : State) : Prop where
  entries : ∀ n, (t.entry n).state ≠ .free → (s.entry n).state ≠ .free ∧ (t.entry n).base = (s.entry n).base ∧
    (t.entry n).span = (s.entry n).span ∧ ((t.entry n).state = .priming → (s.entry n).state = .priming)
  rings : s.journal.SameRings t.journal
  cbsel : t.proc.cbsel = s.proc.cbsel

theorem State.PlacesKept.trans {s t u : State} (h : s.PlacesKept t) (k : t.PlacesKept u) : s.PlacesKept u := by
  refine ⟨fun n hn => ?_, h.rings.trans k.rings, k.cbsel.trans h.cbsel⟩
  obtain ⟨hf, hb, hs, hp⟩ := k.entries n hn
  obtain ⟨hf', hb', hs', hp'⟩ := h.entries n hf
  exact ⟨hf', hb.trans hb', hs.trans hs', hp' ∘ hp⟩

theorem placesKept_of_keeps {s t : State} (hk : s.Keeps t) (hr : s.journal.SameRings t.journal)
    (hc : t.proc.cbsel = s.proc.cbsel) : s.PlacesKept t :=
  ⟨fun n hn => ⟨mt (hk n).free.2 hn, (hk n).base, (hk n).span, (hk n).priming.1⟩, hr, hc⟩

theorem placesKept_of_entries {s t : State} (he : t.entries = s.entries) (hr : s.journal.SameRings t.journal)
    (hc : t.proc.cbsel = s.proc.cbsel) : s.PlacesKept t :=
  placesKept_of_keeps (keeps_of_entries he) hr hc

theorem State.PlacesKept.refl (s : State) : s.PlacesKept s := placesKept_of_entries rfl (.refl _) rfl

theorem forbidden_congr {s t : State} (hr : s.journal.SameRings t.journal) (hc : t.proc.cbsel = s.proc.cbsel)
    (first count : Nat) : t.forbidden first count = s.forbidden first count := by
  simp only [State.forbidden, Journal.covers, State.partOwned, State.cb, hr.base, hr.length, hr.format, hc]

/-- The ring of an install request is one that stood before. -/
theorem Journal.SameRings.request {j j' : Journal} (h : j.SameRings j') {r : InstallRequest} (hr : j'.install = some r) :
    ∃ q, j.install = some q ∧ r.base = q.base ∧ r.length = q.length ∧ r.format = q.format := by
  have hmap := h.install
  rw [hr, Option.map_some] at hmap
  obtain ⟨q, hq, heq⟩ := Option.map_eq_some_iff.1 hmap.symm
  simp only [InstallRequest.ring, Prod.mk.injEq] at heq
  exact ⟨q, hq, heq.1.symm, heq.2.1.symm, heq.2.2.symm⟩

theorem placesWf_of_kept {s t : State} (h : s.placesWf) (hk : s.PlacesKept t) : t.placesWf := by
  intro n hn
  obtain ⟨hf, hb, hs, -⟩ := hk.entries n hn
  obtain ⟨hplace, hring⟩ := h n hf
  rw [hb, hs, forbidden_congr hk.rings hk.cbsel]
  refine ⟨hplace, fun r hr => ?_⟩
  obtain ⟨q, hq, hrb, hrl, hrf⟩ := hk.rings.request hr
  rw [hrb, hrl, hrf]
  exact hring q hq

/-! ## Reset -/

theorem placesWf_of_free {s : State} (h : ∀ n, (s.entry n).state = .free) : s.placesWf := fun n hn => absurd (h n) hn

/-! ## Which operations they are -/

@[simp] theorem present_cbsel (p : Processor) : p.present.cbsel = p.cbsel := by
  unfold Processor.present
  split <;> rfl

@[simp] theorem setProc_cbsel (s : State) (p : Processor) : (s.setProc p).proc.cbsel = p.cbsel := present_cbsel p

theorem placesKept_setProc {s t : State} (h : s.PlacesKept t) {p : Processor} (hp : p.cbsel = t.proc.cbsel) :
    s.PlacesKept (t.setProc p) :=
  h.trans (placesKept_of_entries rfl (.refl _) ((setProc_cbsel t p).trans hp))

theorem evaluate_placesKept (s : State) (w : HostWrite) : s.PlacesKept (s.evaluate w) :=
  placesKept_of_keeps (evaluate_keeps s w) (by rw [State.evaluate_journal]; exact .refl _) (by rw [State.evaluate_proc])

theorem takeRequest_sameRings (j : Journal) : j.SameRings j.takeRequest := by
  refine ⟨rfl, rfl, rfl, ?_⟩
  cases h : j.install <;> simp [Journal.takeRequest, h, InstallRequest.ring]

theorem takeConsume_placesKept (s : State) (lanes : Lanes) (data : Word) : s.PlacesKept (s.takeConsume lanes data) := by
  unfold State.takeConsume
  dsimp only
  split <;> exact placesKept_of_entries rfl ⟨rfl, rfl, rfl, rfl⟩ rfl

theorem emitAll_placesKept (s : State) (es : List Event) : s.PlacesKept (s.emitAll es) :=
  placesKept_of_entries rfl (.refl _) rfl

theorem emit_placesKept (s : State) (e : Event) : s.PlacesKept (s.emit e) := emitAll_placesKept s [e]

theorem meetTake_placesKept (s t : State) : t.PlacesKept (s.meetTake t) := placesKept_of_entries rfl (.refl _) rfl

theorem consumeAndEvaluate_placesKept (s : State) (w : HostWrite) : s.PlacesKept (s.consumeAndEvaluate w) := by
  have h1 := takeConsume_placesKept s w.lanes w.data
  have hjudged := h1.trans (evaluate_placesKept _ w)
  unfold State.consumeAndEvaluate
  dsimp only
  split
  · split
    · exact hjudged.trans (emit_placesKept _ _)
    · refine State.PlacesKept.trans (t := if _ then _ else _) ?_ (placesKept_of_entries rfl (.refl _) rfl)
      split
      · exact (h1.trans (emit_placesKept _ _)).trans (evaluate_placesKept _ w)
      · exact hjudged.trans (emit_placesKept _ _)
  · exact hjudged

theorem tickEntries_placesKept (s : State) (ns : List Index) : s.PlacesKept (s.forEach ns State.tickEntry) :=
  forEach_induct ns (.refl s) fun n _ t h =>
    h.trans (placesKept_of_keeps (tickEntry_keeps t n) (by rw [State.tickEntry_journal]; exact .refl _)
      (by rw [State.tickEntry_proc]))

theorem tickScrub_placesKept (s : State) : s.PlacesKept s.tickScrub := by
  refine placesKept_of_entries ?_ ?_ ?_ <;>
    · unfold State.tickScrub State.expireScrub
      dsimp only
      (repeat' split) <;> exact .refl _

theorem makeTick_placesKept (s : State) : s.PlacesKept s.makeTick := by
  have h1 : s.PlacesKept { s with timebase := s.timebase.ticked } := placesKept_of_entries rfl (.refl _) rfl
  have h2 := h1.trans (tickEntries_placesKept _ (State.timed { s with timebase := s.timebase.ticked }))
  unfold State.makeTick
  exact (h2.trans (tickScrub_placesKept _)).trans (meetTake_placesKept s _)

theorem scrubReadTaken_placesKept (s : State) (c : ScrubClaim) : s.PlacesKept (s.scrubReadTaken c) := by
  unfold State.scrubReadTaken
  dsimp only
  split
  · exact placesKept_of_entries rfl (.refl _) rfl
  · rw [emitFor_eq]
    exact placesKept_of_keeps (keeps_setEntry (s := { s with scrubber := { s.scrubber with claim := none } })
      (.of_eq rfl rfl rfl rfl rfl)) (.refl _) rfl

theorem begin_placesKept (s : State) : s.PlacesKept s.begin := by
  unfold State.begin
  split
  · exact placesKept_of_entries rfl ⟨rfl, rfl, rfl, rfl⟩ rfl
  · exact .refl s

theorem publishRecord_placesKept (s : State) (r : RecordInFlight) : s.PlacesKept (s.publishRecord r) :=
  placesKept_of_entries rfl ⟨rfl, rfl, rfl, (takeRequest_sameRings s.journal).install⟩ rfl

theorem takeInstallRequest_placesKept (s : State) : s.PlacesKept s.takeInstallRequest := by
  unfold State.takeInstallRequest
  split
  · split
    · exact placesKept_of_entries rfl (takeRequest_sameRings _) rfl
    · exact .refl s
  · exact .refl s

/-! ## Requests -/

theorem setEntry_placesKept {s : State} {n : Index} {e : Entry} (h : (s.entry n).Kept e) : s.PlacesKept (s.setEntry n e) :=
  placesKept_of_keeps (keeps_setEntry h) (.refl _) rfl

theorem freeEntry_placesKept (s : State) (n : Index) : s.PlacesKept (s.freeEntry n) := by
  refine ⟨fun m hm => ?_, ?_, ?_⟩
  · rw [entry_freeEntry] at hm ⊢
    split at hm
    · exact absurd rfl hm
    next hmn => rw [if_neg hmn]; exact ⟨hm, rfl, rfl, id⟩
  · rw [freeEntry_eq]; exact .refl _
  · rw [freeEntry_eq]; rfl

theorem disarmRequest_placesKept (s : State) (n : Index) : s.PlacesKept (s.disarmRequest n).1 := by
  have hfreed : s.PlacesKept ((s.flushMerge n).freeEntry n) := by
    rw [flushMerge_eq]
    exact ((setEntry_placesKept (flushed_kept _)).trans (emitAll_placesKept _ _)).trans (freeEntry_placesKept _ n)
  cases hst : (s.entry n).state <;> simp only [State.disarmRequest, hst]
  · exact .refl s
  · exact .refl s
  · exact hfreed
  · exact hfreed

theorem suspendRequest_placesKept (s : State) (n : Index) : s.PlacesKept (s.suspendRequest n).1 := by
  cases hst : (s.entry n).state
  case armed =>
    rw [suspendRequest_eq_of_armed hst]
    exact (setEntry_placesKept (suspend_kept hst)).trans (emitAll_placesKept _ _)
  all_goals simpa only [State.suspendRequest, hst] using .refl s

theorem resumeRequest_placesKept (s : State) (n : Index) : s.PlacesKept (s.resumeRequest n).1 := by
  cases hst : (s.entry n).state
  case suspended =>
    rw [resumeRequest_eq_of_suspended hst]
    exact setEntry_placesKept (resume_kept hst)
  all_goals simpa only [State.resumeRequest, hst] using .refl s

theorem retuneRequest_placesKept (s : State) (n : Index) (d : Descriptor) : s.PlacesKept (s.retuneRequest n d).1 := by
  cases hc : s.retuneCheck n d
  case none =>
    rw [retuneRequest_eq_of_check hc]
    exact (setEntry_placesKept (retune_kept _ d)).trans (emitAll_placesKept _ _)
  case some => simpa only [State.retuneRequest, hc] using .refl s

theorem flushRequest_placesKept (s : State) : s.PlacesKept s.flushRequest :=
  placesKept_of_keeps (flushRequest_keeps s) (by rw [State.flushRequest_journal]; exact .refl _)
    (by rw [State.flushRequest_proc])

theorem primeShadow_placesKept {s : State} {n : Index} (hst : (s.entry n).state = .priming) (o : Nat) (w : Word) {e : Entry}
    (hb : e.base = (s.entry n).base) (hs : e.span = (s.entry n).span) :
    s.PlacesKept ((s.primeShadow n o w).setEntry n e) := by
  refine ⟨fun m hm => ?_, .refl _, rfl⟩
  rw [entry_setEntry] at hm ⊢
  split at hm
  next hmn =>
    rw [if_pos hmn, hmn]
    exact ⟨by simp [hst], hb, hs, fun _ => hst⟩
  next hmn =>
    rw [if_neg hmn]
    exact ⟨hm, rfl, rfl, id⟩

/-! ## Loads, install requests and installations -/

theorem loadEntry_placesWf {s : State} (h : s.placesWf) (hi : s.journal.install = none) {n : Index} {d : Descriptor}
    (hc : s.loadCheck n d = none) : (s.loadEntry n d).placesWf := by
  have hcheck := (loadCheck_none hc).2.2.2
  have hj : (s.loadEntry n d).journal = s.journal := by rw [loadEntry_eq]; rfl
  have hp : (s.loadEntry n d).proc.cbsel = s.proc.cbsel := by rw [loadEntry_eq]; rfl
  intro m hm
  rw [forbidden_congr (by rw [hj]; exact .refl _) hp, hj, hi]
  rw [entry_loadEntry] at hm ⊢
  split at hm
  next hmn => rw [if_pos hmn]; exact ⟨hcheck, nofun⟩
  next hmn => rw [if_neg hmn]; exact ⟨(h m hm).1, nofun⟩

/-- A JOURNAL whose checks pass names a ring that meets no watched word (R122). -/
theorem journalCheck_none {s : State} {ws : List Word} (h : s.journalCheck ws = none) (n : Index)
    (hn : (s.entry n).state ≠ .free) :
    runsMeet (installRequestOf ws).base.toNat ((installRequestOf ws).length * recordWords (installRequestOf ws).format)
      (s.entry n).base.toNat (s.entry n).span.toNat = false := by
  unfold State.journalCheck at h
  dsimp only at h
  by_contra hmeet
  have hany : (entryNumbers.any fun n => (s.entry n).state != .free && runsMeet (installRequestOf ws).base.toNat
      ((installRequestOf ws).length * recordWords (installRequestOf ws).format) (s.entry n).base.toNat
      (s.entry n).span.toNat) = true :=
    List.any_eq_true.2 ⟨n, mem_entryNumbers n, by simp [hn, hmeet]⟩
  rw [if_pos hany] at h
  (repeat' split at h) <;> cases h

theorem journalRequest_placesWf {s t : State} (h : s.placesWf) {ws : List Word} (hc : s.journalCheck ws = none)
    (he : t.entries = s.entries) (hp : t.proc.cbsel = s.proc.cbsel)
    (hj : t.journal = { s.journal with install := some (installRequestOf ws) }) : t.placesWf := by
  intro n hn
  rw [entry_of_entries he] at hn ⊢
  have hcov : t.forbidden (s.entry n).base.toNat (s.entry n).span.toNat =
      s.forbidden (s.entry n).base.toNat (s.entry n).span.toNat := by
    simp only [State.forbidden, Journal.covers, State.partOwned, State.cb, hp, hj]
  rw [hcov, hj]
  refine ⟨(h n hn).1, fun r hr => ?_⟩
  cases hr
  exact journalCheck_none hc n hn

theorem runsMeet_comm (a n b m : Nat) : runsMeet a n b m = runsMeet b m a n := by
  rw [Bool.eq_iff_iff]
  simp only [runsMeet, Bool.and_eq_true, decide_eq_true_eq]
  omega

/-- The ring that an installation installs meets no watched word: its request did not (R102, R122). -/
theorem installed_placesWf {s t : State} (h : s.placesWf) {r : InstallRequest} (hi : s.journal.install = some r)
    (he : t.entries = s.entries) (hp : t.proc.cbsel = s.proc.cbsel) (hb : t.journal.base = r.base)
    (hl : t.journal.length = r.length) (hf : t.journal.format = r.format) (hn : t.journal.install = none) :
    t.placesWf := by
  intro n hne
  rw [entry_of_entries he] at hne ⊢
  obtain ⟨hplace, hring⟩ := h n hne
  have hmeet := hring r hi
  rw [runsMeet_comm] at hmeet
  simp only [State.forbidden, Bool.or_eq_false_iff] at hplace ⊢
  refine ⟨⟨?_, ?_⟩, fun q hq => ?_⟩
  · simpa only [Journal.covers, hb, hl, hf] using hmeet
  · simpa only [State.partOwned, State.cb, hp] using hplace.2
  · rw [hn] at hq; cases hq

end Sys2Proof.Machine
end

section
/-! PROOFS. Every step keeps the Command Processor in agreement with itself and with the part (O59). -/

namespace Sys2Proof.Machine

/-! ## The claim the processor presents -/

/-- What the processor claims is there to be made (R108). -/
def Processor.claimSound (p : Processor) : Prop :=
  (p.claim = some .work → p.workWaits = true) ∧ (p.claim = some .refusal → p.refusalWaits = true)

theorem present_eq (p : Processor) : p.present = { p with claim := p.present.claim } := by
  unfold Processor.present
  split <;> rfl

@[simp] theorem present_workWaits (p : Processor) : p.present.workWaits = p.workWaits := by rw [present_eq]; rfl

@[simp] theorem present_refusalWaits (p : Processor) : p.present.refusalWaits = p.refusalWaits := by rw [present_eq]; rfl

@[simp] theorem present_state (p : Processor) : p.present.state = p.state := by rw [present_eq]

@[simp] theorem present_slot (p : Processor) : p.present.slot = p.slot := by rw [present_eq]

theorem present_startupWf (p : Processor) : p.present.startupWf ↔ p.startupWf := by rw [present_eq]; rfl

theorem present_slotWf (p : Processor) : p.present.slotWf ↔ p.slotWf := by rw [present_eq]; rfl

/-- The claim presented is the one that stood, or the next: a REFUSAL that waits before the current work (R108). -/
theorem present_claim_sound {p : Processor} (h : p.claimSound) : p.present.claimSound := by
  unfold Processor.claimSound
  rw [present_workWaits, present_refusalWaits]
  unfold Processor.present
  split
  · exact h
  · simp only [Processor.nextClaim]
    split
    next hr => exact ⟨nofun, fun _ => hr⟩
    next =>
      split
      next hw => exact ⟨fun _ => hw, nofun⟩
      next => exact ⟨nofun, nofun⟩

/-- Where nothing is claimed, nothing waits (R108). -/
theorem present_claim_none {p : Processor} (h : p.present.claim = none) : p.workWaits = false ∧ p.refusalWaits = false := by
  unfold Processor.present at h
  split at h
  next hc => rw [h] at hc; cases hc
  next =>
    simp only [Processor.nextClaim] at h
    split at h
    · cases h
    next hr =>
      split at h
      · cases h
      next hw => exact ⟨by simpa using hw, by simpa using hr⟩

theorem setProc_proc (s : State) (p : Processor) : (s.setProc p).proc = p.present := rfl

/-- A processor whose parts agree, put into a state with whose install request and PRIMING entries it agrees. -/
theorem setProc_processorWf {s : State} {p : Processor} (hst : p.startupWf) (hsl : p.slotWf) (hcl : p.claimSound)
    (hin : s.journal.install.isSome = true → p.state = .waiting)
    (hpr : ∀ n, (s.entry n).state = .priming → p.state = .filling ∧ ∃ c, p.slot = some c ∧ c.operand = n) :
    (s.setProc p).processorWf := by
  have hsound := present_claim_sound hcl
  refine ⟨(present_startupWf p).2 hst, (present_slotWf p).2 hsl, ⟨hsound.1, hsound.2, fun hn _ => ?_⟩, fun hi => ?_,
    fun n hn => ?_⟩
  · rw [setProc_proc, present_workWaits, present_refusalWaits]
    exact present_claim_none hn
  · rw [setProc_proc, present_state]
    exact hin hi
  · rw [setProc_proc, present_state, present_slot]
    exact hpr n hn

theorem claimSound_of_processorWf {s : State} (h : s.processorWf) : s.proc.claimSound :=
  ⟨h.2.2.1.1, h.2.2.1.2.1⟩

/-- An act that leaves the processor alone, makes no entry PRIMING and hands the writer no request. -/
theorem processorWf_of_kept {s t : State} (h : s.processorWf) (hk : s.PlacesKept t) (hp : t.proc = s.proc)
    (hr : t.port.resetAsserted = s.port.resetAsserted) : t.processorWf := by
  obtain ⟨hst, hsl, hcl, hin, hpr⟩ := h
  refine ⟨hp ▸ hst, hp ▸ hsl, ?_, fun hi => ?_, fun n hn => ?_⟩
  · simpa only [State.claimWf, hp, hr] using hcl
  · rw [hp]
    exact hin (hk.rings.isSome ▸ hi)
  · rw [hp]
    exact hpr n ((hk.entries n (by simp [hn])).2.2.2 hn)

/-- No install request stands in a processor state other than WAITING (R123). -/
theorem install_none_of_processorWf {s : State} (h : s.processorWf) (hs : s.proc.state ≠ .waiting) :
    s.journal.install = none := by
  by_contra hi
  exact hs (h.2.2.2.1 (Option.isSome_iff_ne_none.2 hi))

/-- No entry is PRIMING in a processor state other than FILLING (R18). -/
theorem not_priming_of_processorWf {s : State} (h : s.processorWf) (hs : s.proc.state ≠ .filling) (n : Index) :
    (s.entry n).state ≠ .priming := fun hn => hs (h.2.2.2.2 n hn).1

/-! ## Both invariants together -/

/-- What every step keeps of the processor and of the forbidden places. -/
def State.orderly (s : State) : Prop := s.processorWf ∧ s.placesWf

theorem orderly_of_kept {s t : State} (h : s.orderly) (hk : s.PlacesKept t) (hp : t.proc = s.proc)
    (hr : t.port.resetAsserted = s.port.resetAsserted) : t.orderly :=
  ⟨processorWf_of_kept h.1 hk hp hr, placesWf_of_kept h.2 hk⟩

theorem meetTake_orderly {s t : State} (h : t.orderly) : (s.meetTake t).orderly :=
  orderly_of_kept h (meetTake_placesKept s t) rfl rfl

theorem setProc_placesWf {s : State} (h : s.placesWf) {p : Processor} (hp : p.cbsel = s.proc.cbsel) :
    (s.setProc p).placesWf :=
  placesWf_of_kept h (placesKept_setProc (.refl s) hp)

/-- The claim of a processor that presents none is sound. -/
theorem claimSound_none {p : Processor} (h : p.claim = none) : p.claimSound := by
  simp [Processor.claimSound, h]

/-! ## The processor's writes -/

/-- The processor after a write of its own, its claim taken, where its other parts agree: the entries and the writer are
as before. -/
theorem taken_orderly {s t : State} (h : s.orderly) {p : Processor} (he : t.entries = s.entries)
    (hj : t.journal = s.journal) (hc : t.proc.cbsel = s.proc.cbsel) (hcb : p.cbsel = s.proc.cbsel)
    (hst : p.startupWf) (hsl : p.slotWf) (hcl : p.claim = none)
    (hstate : s.proc.state ≠ p.state → s.proc.state ≠ .waiting ∧ s.proc.state ≠ .filling)
    (hslot : s.proc.state = p.state → p.slot = s.proc.slot) : (t.setProc p).orderly := by
  refine ⟨setProc_processorWf hst hsl (claimSound_none hcl) (fun hi => ?_) fun n hn => ?_, ?_⟩
  · rw [hj] at hi
    have hw := h.1.2.2.2.1 hi
    by_contra hne
    exact (hstate fun he => hne (he ▸ hw)).1 hw
  · rw [entry_of_entries he] at hn
    obtain ⟨hf, hs⟩ := h.1.2.2.2.2 n hn
    have hsame : s.proc.state = p.state := by
      by_contra hne
      exact (hstate hne).2 hf
    exact ⟨hsame ▸ hf, hslot hsame ▸ hs⟩
  · exact setProc_placesWf (placesWf_of_kept h.2 (placesKept_of_entries he (hj ▸ .refl _) hc)) (hcb.trans hc.symm)

theorem publishClaim_iff (p : Processor) : p.publishClaim = true ↔ p.claim = some .work ∧ p.state = .publishing := by
  simp [Processor.publishClaim]

theorem slotWf_publishing {p : Processor} (h : p.slotWf) (hs : p.state = .publishing) :
    p.startupWrites = [] ∧ p.slot.isSome = true ∧ p.result.isSome = true := by
  simpa only [Processor.slotWf, hs] using h

theorem snapshotWordTaken_orderly {s : State} (h : s.orderly) (word : Nat × Word) (rest : List (Nat × Word)) :
    (s.snapshotWordTaken word rest).orderly :=
  taken_orderly h rfl rfl rfl rfl h.1.1 h.1.2.1 rfl (absurd rfl) fun _ => rfl

theorem completionTaken_orderly {s : State} (h : s.orderly) (hp : s.proc.publishClaim = true) :
    s.completionTaken.orderly := by
  obtain ⟨-, hs⟩ := (publishClaim_iff _).1 hp
  obtain ⟨hw, -⟩ := slotWf_publishing h.1.2.1 hs
  exact taken_orderly h rfl rfl rfl rfl h.1.1 ⟨rfl, hw⟩ rfl (fun _ => by simp [hs]) (fun he => by simp [hs] at he)

/-- A start-up record and a refusal that waits: the REFUSAL write has no place among the start-up writes (R109). -/
theorem refusalTaken_orderly {s : State} (h : s.orderly) (hc : s.proc.claim = some .refusal) : s.refusalTaken.orderly := by
  obtain ⟨hsuffix, howed, htag, -⟩ := h.1.1
  have hwaits := h.1.2.2.1.2.1 hc
  have hno : s.proc.startupWrites.contains .refusal = false := by
    simp only [Processor.refusalWaits, Bool.and_eq_true, Bool.not_eq_true'] at hwaits
    exact hwaits.2
  refine taken_orderly h rfl rfl rfl rfl ⟨hsuffix, howed, htag, fun hr => ?_⟩ h.1.2.1 rfl (absurd rfl) fun _ => rfl
  rw [hno] at hr
  cases hr

theorem slotWf_starting {p : Processor} (h : p.slotWf) (hs : p.state = .starting) : p.slot = none := by
  simp only [Processor.slotWf, hs] at h
  exact h.1

/-- The start-up writes left after each, in their two orders (R109, R127). -/
theorem startupRest_cases {w : StartupWrite} {rest : List StartupWrite}
    (h : ∃ order ∈ startupOrders, w :: rest <:+ order) :
    (w, rest) ∈ [(StartupWrite.zeroCompletion, [.refusal, .produce, .presence]), (.refusal, [.produce, .presence]),
      (.produce, [.presence]), (.presence, []), (.aborted, [.presence, .produce, .restartDone]),
      (.presence, [.produce, .restartDone]), (.produce, [.restartDone]), (.restartDone, [])] := by
  obtain ⟨order, ho, hs⟩ := h
  simp only [startupOrders, List.mem_cons, List.not_mem_nil, or_false] at ho
  rcases ho with rfl | rfl <;>
    · simp only [List.suffix_cons_iff, List.suffix_nil, List.cons.injEq, reduceCtorEq, or_false] at hs
      simp only [List.mem_cons, Prod.mk.injEq, List.not_mem_nil, or_false]
      tauto

/-- The start-up writes left are named by the start-up record: an ABORTED completion is owed while its write is left,
a RESTART's tag is kept while its DONE is left, and a refusal is pending while its write is left. -/
theorem afterStartup_startupWf {p : Processor} {w : StartupWrite} {rest : List StartupWrite} (h : p.startupWf)
    (hw : p.startupWrites = w :: rest) : (p.afterStartup w rest).startupWf := by
  obtain ⟨hsuffix, howed, htag, hrefusal⟩ := h
  rw [hw] at hsuffix howed htag hrefusal
  have hrest : ∃ order ∈ startupOrders, rest <:+ order := by
    obtain ⟨order, ho, hs⟩ := hsuffix
    exact ⟨order, ho, (List.suffix_cons w rest).trans hs⟩
  have hcases := startupRest_cases hsuffix
  simp only [List.mem_cons, Prod.mk.injEq, List.not_mem_nil, or_false] at hcases
  have hwrites : (p.afterStartup w rest).startupWrites = rest := by
    unfold Processor.afterStartup
    cases w <;> (dsimp only; split <;> rfl)
  refine ⟨by rw [hwrites]; exact hrest, ?_⟩
  rw [hwrites]
  rcases hcases with ⟨rfl, rfl⟩ | ⟨rfl, rfl⟩ | ⟨rfl, rfl⟩ | ⟨rfl, rfl⟩ | ⟨rfl, rfl⟩ | ⟨rfl, rfl⟩ | ⟨rfl, rfl⟩ | ⟨rfl, rfl⟩ <;>
    simp_all [Processor.afterStartup]

theorem afterStartup_slotWf {p : Processor} (w : StartupWrite) (rest : List StartupWrite) (hs : p.state = .starting)
    (hsl : p.slot = none) : (p.afterStartup w rest).slotWf := by
  cases w <;> cases rest <;> simp [Processor.afterStartup, Processor.slotWf, hs, hsl]

theorem afterStartup_state {p : Processor} (w : StartupWrite) (rest : List StartupWrite) (hs : p.state = .starting) :
    ((p.afterStartup w rest).state = .starting ∨ (p.afterStartup w rest).state = .idle) ∧
      (p.afterStartup w rest).slot = p.slot ∧ (p.afterStartup w rest).claim = none ∧
      (p.afterStartup w rest).cbsel = p.cbsel := by
  cases w <;> cases rest <;> simp [Processor.afterStartup, hs]

theorem startupWriteTaken_orderly {s : State} (h : s.orderly) {w : StartupWrite} {rest : List StartupWrite}
    (hs : s.proc.state = .starting) (hw : s.proc.startupWrites = w :: rest) : (s.startupWriteTaken w rest).orderly := by
  obtain ⟨hstate, hslot, hclaim, hcb⟩ := afterStartup_state w rest hs
  exact taken_orderly h rfl rfl rfl hcb (afterStartup_startupWf h.1.1 hw)
    (afterStartup_slotWf w rest hs (slotWf_starting h.1.2.1 hs)) hclaim (fun _ => by simp [hs]) fun _ => hslot

/-! ## Refusals and resets -/

theorem refuse_orderly {s : State} (h : s.orderly) (w : Word) (r : ResultCode) : (s.refuse w r).orderly := by
  obtain ⟨⟨hst, hsl, hcl, hin, hpr⟩, hpl⟩ := h
  refine ⟨setProc_processorWf ⟨hst.1, hst.2.1, hst.2.2.1, fun _ => rfl⟩ hsl ⟨hcl.1, fun hc => ?_⟩ hin hpr,
    setProc_placesWf hpl rfl⟩
  have hwaits := hcl.2.1 hc
  simp only [Processor.refusalWaits, Bool.and_eq_true] at hwaits ⊢
  exact ⟨rfl, hwaits.2⟩

theorem not_priming_of_reset {s : State} (he : s.entries = Vector.replicate 64 .free) (n : Index) :
    (s.entry n).state ≠ .priming := by
  rw [entry_reset he]; simp [Entry.free]

theorem placesWf_of_reset {s : State} (he : s.entries = Vector.replicate 64 .free) : s.placesWf :=
  placesWf_of_free fun n => by rw [entry_reset he]; rfl

theorem reset_startupWf (cbsel : BitVec 2) : (Processor.reset cbsel).startupWf := by
  simp [Processor.startupWf, Processor.reset, startupOrders]

theorem reset_slotWf (cbsel : BitVec 2) : (Processor.reset cbsel).slotWf := by
  simp [Processor.slotWf, Processor.reset]

/-- While the reset input is asserted the processor stands at its pin-reset values and claims nothing (R139). -/
theorem pinReset_orderly (s : State) : (s.pinResetValues true).orderly := by
  refine ⟨⟨reset_startupWf _, reset_slotWf _, ⟨nofun, nofun, fun _ => nofun⟩, nofun, fun n hn => ?_⟩,
    placesWf_of_reset rfl⟩
  exact absurd hn (not_priming_of_reset rfl n)

theorem release_orderly (s : State) (cbsel : BitVec 2) :
    ((s.pinResetValues false).setProc (Processor.reset cbsel)).orderly :=
  ⟨setProc_processorWf (reset_startupWf _) (reset_slotWf _) (claimSound_none rfl) nofun
    fun n hn => absurd hn (not_priming_of_reset rfl n), placesWf_of_reset rfl⟩

theorem restarted_startupWf (p : Processor) (tag : CommandTag) : (p.restarted tag).startupWf := by
  cases h : p.owedByRestart <;>
    simp [Processor.startupWf, Processor.restarted, restartWrites, startupOrders, h, List.suffix_cons_iff]

theorem restart_orderly (s : State) (tag : CommandTag) : (s.restart tag).orderly := by
  refine ⟨setProc_processorWf (restarted_startupWf _ _) ?_ (claimSound_none rfl) nofun
    fun n hn => absurd hn (not_priming_of_reset rfl n), placesWf_of_reset rfl⟩
  cases h : s.proc.owedByRestart <;> simp [Processor.slotWf, Processor.restarted, Processor.reset, restartWrites, h]

/-! ## Taking a command -/

theorem slotWf_idle {p : Processor} (h : p.slotWf) (hs : p.state = .idle) : p.slot = none ∧ p.startupWrites = [] := by
  simpa only [Processor.slotWf, hs] using h

/-- A processor that is PUBLISHING has its COMPLETION to claim, whatever it claimed before (R108, R113). -/
theorem publishing_claimSound {p : Processor} (h : p.claimSound) {q : Processor} (hs : q.state = .publishing)
    (hc : q.claim = p.claim) (hr : q.refusalWaits = p.refusalWaits) : q.claimSound :=
  ⟨fun _ => by simp [Processor.workWaits, hs], fun hq => by rw [hr]; exact h.2 (hc ▸ hq)⟩

theorem reading_claimSound {p : Processor} (h : p.claimSound) {q : Processor} (hs : q.state = .reading)
    (hc : q.claim = p.claim) (hr : q.refusalWaits = p.refusalWaits) : q.claimSound :=
  ⟨fun _ => by simp [Processor.workWaits, hs], fun hq => by rw [hr]; exact h.2 (hc ▸ hq)⟩

/-- A command whose result is known at IDLE (R111). -/
theorem beginPublishing_orderly {s t : State} (h : s.orderly) (hs : s.proc.state = .idle) (hk : s.PlacesKept t)
    (hp : t.proc = s.proc) (c : CommandSlot) (r : ResultCode) (capture : List (Nat × Word)) :
    (t.beginPublishing c r capture).orderly := by
  obtain ⟨-, hw⟩ := slotWf_idle h.1.2.1 hs
  have hin := install_none_of_processorWf h.1 (by simp [hs])
  have hnp := not_priming_of_processorWf h.1 (by simp [hs])
  have hsound : t.proc.claimSound := hp ▸ claimSound_of_processorWf h.1
  refine ⟨setProc_processorWf (hp ▸ h.1.1) ⟨hp ▸ hw, rfl, rfl⟩
    (publishing_claimSound hsound rfl rfl rfl) (fun hi => ?_) (fun n hn => ?_),
    setProc_placesWf (placesWf_of_kept h.2 hk) rfl⟩
  · rw [hk.rings.isSome, hin] at hi
    cases hi
  · exact absurd ((hk.entries n (by simp [hn])).2.2.2 hn) (hnp n)

/-- A command that reads words (R114). -/
theorem beginReading_orderly {s : State} (h : s.orderly) (hs : s.proc.state = .idle) {c : CommandSlot}
    (hc : commandReads c ≠ []) : (s.beginReading c).orderly := by
  obtain ⟨-, hw⟩ := slotWf_idle h.1.2.1 hs
  have hin := install_none_of_processorWf h.1 (by simp [hs])
  have hnp := not_priming_of_processorWf h.1 (by simp [hs])
  refine ⟨setProc_processorWf h.1.1 ⟨hw, c, rfl, List.length_pos_iff.2 hc⟩
    (reading_claimSound (claimSound_of_processorWf h.1) rfl rfl rfl) (fun hi => ?_) (fun n hn => absurd hn (hnp n)),
    setProc_placesWf h.2 rfl⟩
  rw [hin] at hi
  cases hi

theorem readCount_eq : ∀ op : Opcode,
    (if op = 1 ∨ op = 5 then 8 else if op = 8 then 1 else if op = 9 then 4 else if op = 10 then 2 else 0) =
      wordsToRead op := by decide

/-- The words a command reads are as many as the count of them (R114). -/
theorem commandReads_length (c : CommandSlot) : (commandReads c).length = wordsToRead c.opcode := by
  rw [← readCount_eq]
  unfold commandReads
  (repeat' split) <;> simp

theorem commandReads_ne_nil {c : CommandSlot} (h : 0 < wordsToRead c.opcode) : commandReads c ≠ [] := by
  rw [← List.length_pos_iff, commandReads_length]
  exact h

@[simp] theorem freeEntry_proc (s : State) (n : Index) : (s.freeEntry n).proc = s.proc := by
  rw [freeEntry_eq]; rfl

theorem disarmRequest_proc (s : State) (n : Index) : (s.disarmRequest n).1.proc = s.proc := by
  cases hst : (s.entry n).state <;> simp [State.disarmRequest, hst]

theorem suspendRequest_proc (s : State) (n : Index) : (s.suspendRequest n).1.proc = s.proc := by
  cases hst : (s.entry n).state <;> simp [State.suspendRequest, hst]

theorem resumeRequest_proc (s : State) (n : Index) : (s.resumeRequest n).1.proc = s.proc := by
  cases hst : (s.entry n).state <;> simp [State.resumeRequest, hst]

theorem retuneRequest_proc (s : State) (n : Index) (d : Descriptor) : (s.retuneRequest n d).1.proc = s.proc := by
  cases hc : s.retuneCheck n d <;> simp [State.retuneRequest, hc]

theorem takeCommand_orderly {s : State} (h : s.orderly) (hs : s.proc.state = .idle) (c : CommandSlot) :
    (s.takeCommand c).orderly := by
  have hreads : ∀ k, c.opcode.toNat = k → k ∈ [1, 5, 8, 9, 10] → (s.beginReading c).orderly := fun k hk hmem => by
    refine beginReading_orderly h hs (commandReads_ne_nil ?_)
    simp only [wordsToRead, hk]
    fin_cases hmem <;> decide
  unfold State.takeCommand
  split
  case h_1 hk => exact hreads _ hk (by simp)
  case h_2 =>
    exact beginPublishing_orderly h hs (disarmRequest_placesKept s c.operand) (disarmRequest_proc s c.operand) c _ []
  case h_3 =>
    exact beginPublishing_orderly h hs (suspendRequest_placesKept s c.operand) (suspendRequest_proc s c.operand) c _ []
  case h_4 =>
    exact beginPublishing_orderly h hs (resumeRequest_placesKept s c.operand) (resumeRequest_proc s c.operand) c _ []
  case h_5 hk => exact hreads _ hk (by simp)
  case h_6 => exact beginPublishing_orderly h hs (.refl s) rfl c _ _
  case h_7 => exact beginPublishing_orderly h hs (flushRequest_placesKept s) (State.flushRequest_proc s) c _ []
  case h_8 hk => exact hreads _ hk (by simp)
  case h_9 hk => exact hreads _ hk (by simp)
  case h_10 hk => exact hreads _ hk (by simp)
  case h_11 => exact beginPublishing_orderly h hs (.refl s) rfl c _ []

theorem examine_orderly {s : State} (h : s.orderly) (lanes : Lanes) (data : Word) : (s.examine lanes data).orderly := by
  unfold State.examine
  split
  · exact h
  · split
    · exact refuse_orderly h _ _
    · split
      · exact h
      · split
        · exact restart_orderly s _
        · split
          next hs => exact takeCommand_orderly h hs _
          next => exact refuse_orderly h _ _

theorem consumeAndEvaluate_proc (s : State) (w : HostWrite) :
    (s.consumeAndEvaluate w).proc = s.proc ∧ (s.consumeAndEvaluate w).port = s.port := by
  have h1 : (s.takeConsume w.lanes w.data).proc = s.proc ∧ (s.takeConsume w.lanes w.data).port = s.port := by
    unfold State.takeConsume
    dsimp only
    split <;> exact ⟨rfl, rfl⟩
  unfold State.consumeAndEvaluate
  dsimp only
  (repeat' split) <;> simp [h1]

theorem hostWriteTaken_orderly {s : State} (h : s.orderly) (w : HostWrite) : (s.hostWriteTaken w).orderly := by
  have hmem : State.orderly { s with mem := Memory.writeLanes s.mem w.addr w.lanes w.data } := h
  have hjudged := orderly_of_kept hmem (evaluate_placesKept _ w) (State.evaluate_proc _ w)
    (by rw [State.evaluate_port])
  refine meetTake_orderly ?_
  unfold State.announceWrite
  dsimp only
  split
  · exact hmem
  · split
    · obtain ⟨hp, hport⟩ := consumeAndEvaluate_proc { s with mem := Memory.writeLanes s.mem w.addr w.lanes w.data } w
      exact orderly_of_kept hmem (consumeAndEvaluate_placesKept _ w) hp (by rw [hport])
    · split
      · exact examine_orderly hjudged _ _
      · exact hjudged

/-! ## The reads of a command -/

/-- The end of a command (R113): no request stands, no entry is PRIMING, and the claim, if any, is a REFUSAL's. -/
theorem publish_orderly {t : State} (hst : t.proc.startupWf) (hw : t.proc.startupWrites = [])
    (hsl : t.proc.slot.isSome = true) (hrf : t.proc.claim = some .refusal → t.proc.refusalWaits = true)
    (hin : t.journal.install = none) (hnp : ∀ n, (t.entry n).state ≠ .priming) (hpl : t.placesWf) (r : ResultCode) :
    (t.publish r).orderly := by
  refine ⟨setProc_processorWf hst ⟨hw, hsl, rfl⟩ ⟨fun _ => rfl, hrf⟩ (fun hi => ?_) fun n hn => absurd hn (hnp n),
    setProc_placesWf hpl rfl⟩
  rw [hin] at hi
  cases hi

/-- A command reading its words, in the act of its last read: its claim is taken, and nothing else of the part is
engaged. -/
structure State.lastRead (s : State) (c : CommandSlot) : Prop where
  startup : s.proc.startupWf
  writes : s.proc.startupWrites = []
  slot : s.proc.slot = some c
  claim : s.proc.claim = none
  install : s.journal.install = none
  priming : ∀ n, (s.entry n).state ≠ .priming
  places : s.placesWf

/-- A command ends at its last read, whatever else the act did that makes no entry PRIMING. -/
theorem lastRead_publish {s t : State} {c : CommandSlot} (h : s.lastRead c) (hk : s.PlacesKept t) (hp : t.proc = s.proc)
    (r : ResultCode) : (t.publish r).orderly := by
  refine publish_orderly (hp ▸ h.startup) (hp ▸ h.writes) ?_ ?_ ?_ (fun n hn => ?_) (placesWf_of_kept h.places hk) r
  · rw [hp, h.slot]; rfl
  · rw [hp, h.claim]; nofun
  · rw [← Option.not_isSome_iff_eq_none, hk.rings.isSome, h.install]
    simp
  · exact h.priming n ((hk.entries n (by simp [hn])).2.2.2 hn)

theorem finishLoad_orderly {s : State} {c : CommandSlot} (h : s.lastRead c) (hop : c.opcode = 1) (d : Descriptor) :
    (s.finishLoad c.operand d).orderly := by
  unfold State.finishLoad
  split
  · exact lastRead_publish h (.refl s) rfl _
  next hc =>
    have hj : (s.loadEntry c.operand d).journal = s.journal := by rw [loadEntry_eq]; rfl
    refine ⟨setProc_processorWf h.startup ⟨h.writes, c, h.slot, hop⟩ (claimSound_none h.claim) (fun hi => ?_)
      fun n hn => ⟨rfl, c, h.slot, ?_⟩, setProc_placesWf (loadEntry_placesWf h.places h.install hc) ?_⟩
    · rw [hj, h.install] at hi
      cases hi
    · by_contra hne
      rw [entry_loadEntry, if_neg (Ne.symm hne)] at hn
      exact h.priming n hn
    · rw [loadEntry_eq]; rfl

theorem finishJournal_orderly {s : State} {c : CommandSlot} (h : s.lastRead c) (hop : c.opcode = 9) (ws : List Word) :
    (s.finishJournal ws).orderly := by
  unfold State.finishJournal
  split
  · exact lastRead_publish h (.refl s) rfl _
  next hc =>
    have hpl : State.placesWf { s with journal := { s.journal with install := some (installRequestOf ws) } } :=
      journalRequest_placesWf h.places hc rfl rfl rfl
    exact ⟨setProc_processorWf h.startup ⟨h.writes, c, h.slot, hop⟩ (claimSound_none h.claim) (fun _ => rfl)
      fun n hn => absurd hn (h.priming n), setProc_placesWf hpl rfl⟩

theorem finishReading_orderly {s : State} {c : CommandSlot} (h : s.lastRead c) (ws : List Word) :
    (s.finishReading c ws).orderly := by
  unfold State.finishReading
  split
  case h_1 hop => exact finishLoad_orderly h (BitVec.eq_of_toNat_eq hop) _
  case h_2 => exact lastRead_publish h (retuneRequest_placesKept s _ _) (retuneRequest_proc s _ _) _
  case h_3 => exact lastRead_publish h (emit_placesKept s _) rfl _
  case h_4 hop => exact finishJournal_orderly h (BitVec.eq_of_toNat_eq hop) ws
  case h_5 =>
    unfold State.finishTimebase
    split
    · exact lastRead_publish h (.refl s) rfl _
    · exact lastRead_publish h (placesKept_of_entries rfl (.refl _) rfl) rfl _

theorem commandReadClaim_some {p : Processor} {c : CommandSlot} (h : p.commandReadClaim = some c) :
    p.claim = some .work ∧ p.state = .reading ∧ p.slot = some c := by
  unfold Processor.commandReadClaim at h
  split at h
  next hc => exact ⟨hc.1, hc.2, h⟩
  next => cases h

theorem commandReadTaken_orderly {s : State} (h : s.orderly) {c : CommandSlot}
    (hc : s.proc.commandReadClaim = some c) : (s.commandReadTaken c).orderly := by
  obtain ⟨-, hs, hsl⟩ := commandReadClaim_some hc
  have hw : s.proc.startupWrites = [] := by
    have := h.1.2.1
    simp only [Processor.slotWf, hs] at this
    exact this.1
  unfold State.commandReadTaken
  dsimp only
  split
  next hmore =>
    refine taken_orderly h rfl rfl rfl rfl h.1.1 ?_ rfl (absurd rfl) fun _ => rfl
    simp only [Processor.slotWf, hs]
    exact ⟨hw, c, hsl, by rw [commandReads_length]; exact hmore⟩
  next =>
    have hin := install_none_of_processorWf h.1 (by simp [hs])
    have hnp := not_priming_of_processorWf h.1 (by simp [hs])
    refine meetTake_orderly (finishReading_orderly ?_ _)
    exact ⟨h.1.1, hw, hsl, rfl, hin, hnp, h.2⟩

/-! ## Prime reads and installations -/

theorem slotWf_filling {p : Processor} (h : p.slotWf) (hs : p.state = .filling) :
    p.startupWrites = [] ∧ ∃ c, p.slot = some c ∧ c.opcode = 1 := by
  simpa only [Processor.slotWf, hs] using h

/-- The LOAD in the slot is the only one whose entry is PRIMING (R18). -/
theorem priming_unique {s : State} (h : s.processorWf) {c : CommandSlot} (hsl : s.proc.slot = some c) {n : Index}
    (hn : (s.entry n).state = .priming) : n = c.operand := by
  obtain ⟨-, d, hd, rfl⟩ := h.2.2.2.2 n hn
  rw [hsl] at hd
  cases hd
  rfl

theorem primeReadTaken_orderly {s : State} (h : s.orderly) {n : Index} (hn : s.primeReadClaim = some n) :
    (s.primeReadTaken n).orderly := by
  obtain ⟨-, hs, hst, c, hsl, rfl⟩ := primeReadClaim_priming hn
  have hin := install_none_of_processorWf h.1 (by simp [hs])
  obtain ⟨hw, -⟩ := slotWf_filling h.1.2.1 hs
  by_cases hlast : (s.entry c.operand).primeProgress.toNat + 1 < (s.entry c.operand).span.toNat
  · rw [primeReadTaken_next hlast]
    have hk := primeShadow_placesKept hst (s.entry c.operand).primeProgress.toNat (s.primeWord c.operand)
      (e := (s.entry c.operand).advanced) rfl rfl
    exact ⟨setProc_processorWf h.1.1 h.1.2.1 (claimSound_none rfl) h.1.2.2.2.1 fun m hm =>
      h.1.2.2.2.2 m ((hk.entries m (by simp [hm])).2.2.2 hm), setProc_placesWf (placesWf_of_kept h.2 hk) rfl⟩
  · rw [primeReadTaken_last hlast]
    obtain ⟨hb, hsp, -⟩ := primed_place (s.entry c.operand).advanced
    have hk := primeShadow_placesKept hst (s.entry c.operand).primeProgress.toNat (s.primeWord c.operand)
      (e := (s.entry c.operand).advanced.primed) hb hsp
    have hslot : s.proc.slot.isSome = true := by rw [hsl]; rfl
    have hnp : ∀ m, (((s.primeShadow c.operand (s.entry c.operand).primeProgress.toNat (s.primeWord c.operand)).setEntry
        c.operand (s.entry c.operand).advanced.primed).entry m).state ≠ .priming := by
      intro m hm
      rw [entry_setEntry] at hm
      split at hm
      · rcases primed_state (s.entry c.operand).advanced with hp | hp <;> simp [hp] at hm
      next hne => exact hne (priming_unique h.1 hsl hm)
    have hpl := placesWf_of_kept h.2 hk
    refine publish_orderly ?_ ?_ ?_ ?_ ?_ ?_ ?_ _
    exacts [h.1.1, hw, hslot, nofun, hin, hnp, hpl]

/-- An installation ends the JOURNAL in the slot, and the ring it installs meets no watched word (R102, R123). -/
theorem install_orderly {s : State} (h : s.orderly) {r : InstallRequest} (hi : s.journal.install = some r) :
    (s.install r).orderly := by
  have hs : s.proc.state = .waiting := h.1.2.2.2.1 (by rw [hi]; rfl)
  have hnp := not_priming_of_processorWf h.1 (by simp [hs])
  have hsl : s.proc.startupWrites = [] ∧ ∃ c, s.proc.slot = some c ∧ c.opcode = 9 := by
    simpa only [Processor.slotWf, hs] using h.1.2.1
  obtain ⟨hw, c, hc, -⟩ := hsl
  have hrf := h.1.2.2.1.2.1
  have hslot : s.proc.slot.isSome = true := by rw [hc]; rfl
  unfold State.install
  dsimp only
  split <;>
    · refine publish_orderly ?_ ?_ ?_ ?_ ?_ ?_ ?_ _
      exacts [h.1.1, hw, hslot, hrf, rfl, hnp, installed_placesWf h.2 hi rfl rfl rfl rfl rfl rfl]

/-! ## Acts -/

theorem grant_resetAsserted (s : State) : s.grant.port.resetAsserted = s.port.resetAsserted := by
  rcases grant_cases s with h | ⟨-, -, -, a, -, h⟩ | ⟨-, -, c, -, -, h⟩ <;> rw [h]
  · cases a <;> rfl
  · rfl

/-- Acts that leave the processor alone leave the reset input alone. -/
theorem makeTick_frame (s : State) : s.makeTick.proc = s.proc ∧ s.makeTick.port = s.port := by
  have hentries : ∀ t : State, ∀ ns, (t.forEach ns State.tickEntry).proc = t.proc ∧
      (t.forEach ns State.tickEntry).port = t.port := fun t ns =>
    forEach_induct (P := fun u => u.proc = t.proc ∧ u.port = t.port) ns ⟨rfl, rfl⟩ fun n _ u hu => by simp [hu]
  have hscrub : ∀ t : State, t.tickScrub.proc = t.proc ∧ t.tickScrub.port = t.port := fun t => by
    unfold State.tickScrub State.expireScrub
    dsimp only
    (repeat' split) <;> exact ⟨rfl, rfl⟩
  obtain ⟨hp, hport⟩ := hentries { s with timebase := s.timebase.ticked } (State.timed { s with timebase := s.timebase.ticked })
  simp [State.makeTick, hscrub, hp, hport]

theorem scrubReadTaken_frame (s : State) (c : ScrubClaim) :
    (s.scrubReadTaken c).proc = s.proc ∧ (s.scrubReadTaken c).port = s.port := by
  unfold State.scrubReadTaken
  dsimp only
  split <;> simp

theorem begin_frame (s : State) : s.begin.proc = s.proc ∧ s.begin.port = s.port := by
  unfold State.begin
  split <;> simp

theorem takeInstallRequest_frame (s : State) :
    s.takeInstallRequest.proc = s.proc ∧ s.takeInstallRequest.port = s.port := by
  unfold State.takeInstallRequest
  (repeat' split) <;> simp

/-- An act that leaves the processor and the port alone. -/
theorem orderly_of_frame {s t : State} (h : s.orderly) (hk : s.PlacesKept t) (hf : t.proc = s.proc ∧ t.port = s.port) :
    t.orderly :=
  orderly_of_kept h hk hf.1 (by rw [hf.2])

/-- Every act keeps the processor consistent and watched words out of the forbidden places. -/
theorem act_orderly {s t : State} (hact : Act s t) (h : s.orderly) : t.orderly := by
  cases hact with
  | dequeue | store | readOut | present | freePort | phase =>
    exact orderly_of_kept h (placesKept_of_entries rfl (.refl _) rfl) rfl rfl
  | grant =>
    exact orderly_of_kept h (placesKept_of_entries (State.grant_entries s) (by rw [State.grant_journal]; exact .refl _)
      (by rw [State.grant_proc])) (State.grant_proc s) (grant_resetAsserted s)
  | pinReset => exact pinReset_orderly s
  | release cbsel => exact release_orderly s cbsel
  | hostWrite w => exact hostWriteTaken_orderly h w
  | commandRead c hc => exact commandReadTaken_orderly h hc
  | primeRead n hn => exact primeReadTaken_orderly h hn
  | snapshotWord word rest => exact snapshotWordTaken_orderly h word rest
  | completion hp => exact completionTaken_orderly h hp
  | refusal hc => exact refusalTaken_orderly h hc
  | startup w rest _ hs hw => exact startupWriteTaken_orderly h hs hw
  | beginRecord => exact orderly_of_frame h (begin_placesKept s) (begin_frame s)
  | recordWord r => exact orderly_of_frame h (placesKept_of_entries rfl ⟨rfl, rfl, rfl, rfl⟩ rfl) ⟨rfl, rfl⟩
  | publication r => exact orderly_of_frame h (publishRecord_placesKept s r) ⟨rfl, rfl⟩
  | installRequest => exact orderly_of_frame h (takeInstallRequest_placesKept s) (takeInstallRequest_frame s)
  | installation r _ hi => exact install_orderly h hi
  | tick => exact orderly_of_frame h (makeTick_placesKept s) (makeTick_frame s)
  | scrubRead c => exact orderly_of_frame h (scrubReadTaken_placesKept s c) (scrubReadTaken_frame s c)

/-- Settles O59: every act keeps both, and a step is a sequence of acts. -/
theorem stepsKeepProcessorAndPlaces : Obligations.StepsKeepProcessorAndPlaces := by
  intro s t hstep hp hpl
  exact step_keeps (P := State.orderly) (fun _ _ => act_orderly) hstep ⟨hp, hpl⟩

end Sys2Proof.Machine
end

section
/-! PROOFS. Resets: the values right after reset (O3), PIN_RESET (O4) and RESET_RELEASE (O5). -/

namespace Sys2Proof.Machine

/-! ## Right after reset -/

theorem reset_tableWf : State.reset.tableWf := tableWf_of_reset rfl rfl rfl rfl

theorem reset_orderly : State.reset.orderly :=
  release_orderly State.reset 0

theorem reset_queue_empty (c : EventClass) :
    EventQueue.reset.list c = [] ∧ EventQueue.reset.lostOf c = 0 ∧ EventQueue.reset.unreportedOf c = 0 := by
  simp [EventQueue.list, EventQueue.lostOf, EventQueue.unreportedOf, EventQueue.reset]

theorem reset_queue_depth : EventQueue.reset.depth = 0 := by
  simp [EventQueue.depth, reset_queue_empty]

theorem reset_queue_wf : EventQueue.reset.wf := ⟨by simp [reset_queue_depth], nofun⟩

theorem reset_balanced : State.reset.balanced := by
  have hq : State.reset.queue = EventQueue.reset := rfl
  simp only [State.balanced, hq, reset_queue_depth, reset_queue_empty]
  rfl

theorem reset_journal_wf : Journal.reset.wf :=
  ⟨.inl ⟨rfl, rfl⟩, fun _ => ⟨rfl, rfl, rfl, rfl, rfl⟩, fun h => absurd rfl h, nofun, nofun, nofun, rfl⟩

theorem reset_portWf : State.reset.portWf := ⟨by decide, rfl, nofun, nofun⟩

theorem reset_timersWf : State.reset.timersWf := by
  refine ⟨⟨?_, ?_, ?_⟩, ⟨?_, ?_⟩⟩ <;> simp [State.reset, Timebase.reset, Config.resetDivisor, Scrubber.reset]

/-- Settles O3: each invariant at its reset value. -/
theorem invariantsHoldAtReset : Obligations.InvariantsHoldAtReset :=
  ⟨⟨.nil, nofun⟩, reset_balanced, reset_queue_wf, reset_tableWf.1, reset_tableWf.2.2, reset_tableWf.2.1,
    reset_journal_wf, reset_portWf, reset_timersWf, reset_orderly.2, reset_orderly.1⟩

/-! ## The reset values of the blocks -/

/-- A state whose blocks have the values that both resets share. -/
theorem blocksReset_of {t : State} {d : Word} {b : Bool} (he : t.entries = Vector.replicate 64 .free)
    (hs : t.slots = Vector.replicate 256 .reset) (hf : t.freeCount = Config.shadowSlots) (hq : t.queue = .reset)
    (hj : t.journal = .reset) (hsc : t.scrubber = .reset) (hp : t.port = .reset d b) : t.blocksReset := by
  refine ⟨entry_reset he, slot_reset hs, hf, fun c => ?_, ?_, ?_, ?_, hj, hsc, ?_⟩
  · rw [hq]; exact reset_queue_empty c
  · rw [hq]; rfl
  · rw [hq]; rfl
  · rw [hq]; rfl
  · rw [hp]; exact ⟨rfl, rfl, rfl, rfl, rfl⟩

/-! ## A host access in progress -/

/-- A byte after a host write of some lanes (R130). -/
theorem readByte_writeLanes (m : Memory) (a : Addr) (lanes : Lanes) (data : Word) (x : Nat) :
    Memory.readByte (Memory.writeLanes m a lanes data) x =
      if lanes.upper = true ∧ x = upperCell a then upperByte data
      else if lanes.lower = true ∧ x = lowerCell a then lowerByte data
      else Memory.readByte m x := by
  obtain ⟨lower, upper⟩ := lanes
  cases lower <;> cases upper <;> simp [Memory.writeLanes, readByte_writeByte]

/-- A whole word is stored (R134). -/
theorem writeWord_storesWord (m : Memory) (a : Addr) (w : Word) : storesWord m (Memory.writeWord m a w) a w := by
  have h := lowerCell_ne_upperCell a a
  refine ⟨?_, ?_, fun x hu hl => ?_⟩ <;> rw [Memory.writeWord, readByte_writeLanes]
  · simp [Lanes.both]
  · simp [Lanes.both, h]
  · simp [hu, hl]

/-- The port forwards the access in progress (R139, log 15). -/
theorem forwardHeld_forwards (s : State) : s.forwardsHeld s.forwardHeld := by
  unfold State.forwardsHeld State.forwardHeld State.heldWrite State.heldRead
  rcases hp : s.port.performing with _ | ⟨w | c⟩ <;> rcases hw : s.port.hostWaiting with _ | ⟨a | v⟩ <;>
    simp [State.forward, readByte_writeLanes, State.readWord]

theorem forwardsHeld_congr {s t u : State} (h : s.forwardsHeld t) (hm : u.mem = t.mem)
    (hr : u.port.readData = t.port.readData) : s.forwardsHeld u := by
  simpa only [State.forwardsHeld, hm, hr] using h

/-- Forwarding changes memory and the host's read data only. -/
theorem forwardHeld_frame (s : State) :
    s.forwardHeld.proc = s.proc ∧ s.forwardHeld.freeCounter = s.freeCounter ∧ s.forwardHeld.pending = s.pending := by
  have hforward : ∀ a : HostAccess, (s.forward a).proc = s.proc ∧ (s.forward a).freeCounter = s.freeCounter ∧
      (s.forward a).pending = s.pending := fun a => by cases a <;> exact ⟨rfl, rfl, rfl⟩
  unfold State.forwardHeld
  (repeat' split) <;> simp only [hforward, and_self]

/-- Settles O4: the values of `pinResetValues`, with the access in progress forwarded before. -/
theorem pinResetTakesResetValues : Obligations.PinResetTakesResetValues := by
  intro s
  obtain ⟨hproc, hfree, hpending⟩ := forwardHeld_frame s
  refine ⟨s.assertReset, rfl, blocksReset_of rfl rfl rfl rfl rfl rfl rfl, rfl, rfl, ?_, hfree, hpending,
    forwardsHeld_congr (forwardHeld_forwards s) rfl rfl⟩
  simp only [State.assertReset, State.pinResetValues, Processor.reset, hproc]

/-! ## The straps -/

theorem strapNumber_toNat (b1 b0 : Bool) : (strapNumber b1 b0).toNat = 2 * b1.toNat + b0.toNat := by
  cases b1 <;> cases b0 <;> rfl

/-- An address of the control block (R106). -/
theorem cb_toNat (s : State) {offset : Nat} (h : offset < 0x40000) :
    (s.cb offset).toNat = s.proc.cbsel.toNat * 0x40000 + offset := by
  have := s.proc.cbsel.isLt
  simp only [State.cb, BitVec.toNat_ofNat]
  omega

/-- Settles O5: the release is `pinResetValues` with the straps sampled and the first start-up write claimed. -/
theorem resetReleaseSamplesStraps : Obligations.ResetReleaseSamplesStraps := by
  intro b1 b0 s
  obtain ⟨-, hfree, hpending⟩ := forwardHeld_frame s
  have hcb : (s.releaseReset (strapNumber b1 b0)).proc.cbsel = strapNumber b1 b0 := rfl
  refine ⟨s.releaseReset (strapNumber b1 b0), rfl, blocksReset_of rfl rfl rfl rfl rfl rfl rfl, rfl, rfl,
    strapNumber_toNat b1 b0, fun offset ho => ?_, rfl, hfree, hpending,
    forwardsHeld_congr (forwardHeld_forwards s) rfl rfl⟩
  rw [cb_toNat _ (by omega), hcb, strapNumber_toNat]

end Sys2Proof.Machine
end

section
/-! PROOFS. Commands written to COMMAND: what the taking of a command word is, RESTART (O35), DISARM (O30), SUSPEND (O31)
and RESUME (O32). -/

namespace Sys2Proof.Machine

/-! ## The command word -/

theorem commandWord_toNat (op : Opcode) (n : Index) (tag : CommandTag) :
    (commandWord op n tag).toNat = tag.toNat * 1024 + n.toNat * 16 + op.toNat := by
  have hn : tag.toNat <<< 6 ||| n.toNat = tag.toNat * 64 + n.toNat := by
    rw [← Nat.shiftLeft_add_eq_or_of_lt n.isLt, Nat.shiftLeft_eq]
  simp only [commandWord, BitVec.toNat_append, hn]
  rw [← Nat.shiftLeft_add_eq_or_of_lt op.isLt, Nat.shiftLeft_eq]
  omega

theorem opcodeOf_commandWord (op : Opcode) (n : Index) (tag : CommandTag) : opcodeOf (commandWord op n tag) = op := by
  apply BitVec.eq_of_toNat_eq
  have := op.isLt
  simp only [opcodeOf, BitVec.extractLsb'_toNat, commandWord_toNat, Nat.shiftRight_zero]
  omega

theorem operandOf_commandWord (op : Opcode) (n : Index) (tag : CommandTag) : operandOf (commandWord op n tag) = n := by
  apply BitVec.eq_of_toNat_eq
  have := op.isLt
  have := n.isLt
  simp only [operandOf, BitVec.extractLsb'_toNat, commandWord_toNat, Nat.shiftRight_eq_div_pow]
  omega

theorem tagOf_commandWord (op : Opcode) (n : Index) (tag : CommandTag) : tagOf (commandWord op n tag) = tag := by
  apply BitVec.eq_of_toNat_eq
  have := op.isLt
  have := n.isLt
  have := tag.isLt
  simp only [tagOf, BitVec.extractLsb'_toNat, commandWord_toNat, Nat.shiftRight_eq_div_pow]
  omega

/-! ## A command word that is taken -/

/-- The port's fields are all that `hostTaking` changes. -/
theorem hostTaking_eq (s : State) : s.hostTaking = { s with port := s.hostTaking.port } := by
  unfold State.hostTaking
  split <;> rfl

theorem hostTaking_port {s : State} (h : s.hostReady) :
    s.hostTaking.port.resetAsserted = false ∧ s.hostTaking.port.readData = s.port.readData := by
  refine ⟨?_, ?_⟩ <;> unfold State.hostTaking <;> split
  · exact h.1
  · exact h.1
  · rfl
  · rfl

theorem hostTaking_takeDue (s : State) : s.hostTaking.takeDue = s.takeDue := by
  rw [hostTaking_eq]; rfl

theorem hostTaking_commandWrite (s : State) (op : Opcode) (n : Index) (tag : CommandTag) :
    s.hostTaking.commandWrite op n tag = s.commandWrite op n tag := by
  rw [hostTaking_eq]; rfl

theorem cbCommand_ne_cbConsume (s : State) : s.cb Config.cbCommand ≠ s.cb Config.cbConsume := by
  rw [BitVec.toNat_ne, cb_toNat _ (by decide), cb_toNat _ (by decide)]
  simp [Config.cbCommand, Config.cbConsume]

/-- A host write has reached memory and every entry that holds its word, its events not yet met with a take (R40). -/
def State.evaluated (s : State) (w : HostWrite) : State :=
  State.evaluate { s with mem := Memory.writeLanes s.mem w.addr w.lanes w.data } w

theorem evaluated_proc (s : State) (w : HostWrite) : (s.evaluated w).proc = s.proc := State.evaluate_proc _ w

/-- The write of a command word is examined after the entries have judged it (R40, R110). -/
theorem hostWriteTaken_command (s : State) (op : Opcode) (n : Index) (tag : CommandTag) :
    s.hostWriteTaken (s.commandWrite op n tag) =
      s.meetTake ((s.evaluated (s.commandWrite op n tag)).examine Lanes.both (commandWord op n tag)) := by
  have hne := cbCommand_ne_cbConsume s
  simp only [State.hostWriteTaken, State.announceWrite, State.commandWrite, anyLane, Lanes.both, Bool.or_self,
    Bool.not_true, Bool.false_eq_true, if_false, if_neg hne, if_true]
  rfl

/-- The taking of a command's write at a ready port. -/
theorem takeCommandWrite_of_ready {s : State} (h : s.hostReady) (op : Opcode) (n : Index) (tag : CommandTag) :
    s.takeCommandWrite op n tag = s.hostTaking.meetTake
      ((s.hostTaking.evaluated (s.commandWrite op n tag)).examine Lanes.both (commandWord op n tag)) := by
  rw [State.takeCommandWrite, takeHostWrite_of_ready h, ← hostTaking_commandWrite, hostWriteTaken_command]

theorem hostTaking_proc (s : State) : s.hostTaking.proc = s.proc := by rw [hostTaking_eq]

/-- A command from opcode 1 to 14 whose write is taken at IDLE is taken itself (R110, R111). -/
theorem takeCommandWrite_of_idle {s : State} (h : s.hostReady) (hs : s.proc.state = .idle) {op : Opcode} (h0 : op ≠ 0)
    (h15 : op ≠ 15) (n : Index) (tag : CommandTag) :
    s.takeCommandWrite op n tag = s.hostTaking.meetTake
      ((s.hostTaking.evaluated (s.commandWrite op n tag)).takeCommand ⟨op, n, tag⟩) := by
  rw [takeCommandWrite_of_ready h]
  simp only [State.examine, anyLane, isFull, Lanes.both, Bool.or_self, Bool.and_self, Bool.not_true,
    Bool.false_eq_true, if_false, opcodeOf_commandWord, operandOf_commandWord, tagOf_commandWord, h0, h15,
    evaluated_proc, hostTaking_proc, hs, if_true]

/-! ## RESTART -/

/-- No loss is unreported in a reset queue, so no take is met. -/
theorem reset_queue_meetTake (due : Bool) : EventQueue.reset.meetTake due = EventQueue.reset :=
  EventQueue.meetTake_of_no_loss _ _ (by simp [EventQueue.hasUnreported, reset_queue_empty])

theorem restarted_present (p : Processor) (tag : CommandTag) :
    (p.restarted tag).present = { p.restarted tag with claim := some .work } := by
  have hw : (p.restarted tag).workWaits = true := by
    cases h : p.owedByRestart <;>
      simp [Processor.workWaits, Processor.restarted, Processor.reset, restartWrites, h]
  have hr : (p.restarted tag).refusalWaits = false := rfl
  have hc : (p.restarted tag).claim.isSome = false := rfl
  simp [Processor.present, Processor.nextClaim, hw, hr, hc]

theorem restartWrites_eq (owed : Option OwedAborted) :
    restartWrites owed = (if owed.isSome then [.aborted] else []) ++ [.presence, .produce, .restartDone] := by
  unfold restartWrites
  split <;> rfl

/-- What a write leaves alone before the Command Processor acts on it. -/
theorem evaluated_hostTaking (s : State) (w : HostWrite) :
    (s.hostTaking.evaluated w).port = s.hostTaking.port ∧ (s.hostTaking.evaluated w).timebase = s.timebase ∧
      (s.hostTaking.evaluated w).freeCounter = s.freeCounter ∧ (s.hostTaking.evaluated w).pending = s.pending ∧
      (s.hostTaking.evaluated w).proc = s.proc ∧
      (s.hostTaking.evaluated w).mem = Memory.writeLanes s.mem w.addr w.lanes w.data := by
  rw [hostTaking_eq]
  simp [State.evaluated]

/-- Settles O35: the write of a RESTART is `restart` after the write has been judged. -/
theorem restartResetsThePart : Obligations.RestartResetsThePart := by
  intro n tag s h owed
  have htaken : exec (.restart n tag) s =
      .next (s.hostTaking.meetTake ((s.hostTaking.evaluated (s.commandWrite 15 n tag)).restart tag)) := by
    show Host.Outcome.next (s.takeCommandWrite 15 n tag) = _
    rw [takeCommandWrite_of_ready h]
    simp [State.examine, anyLane, isFull, Lanes.both, opcodeOf_commandWord, tagOf_commandWord]
  obtain ⟨hreset, hdata⟩ := hostTaking_port h
  obtain ⟨hport, htime, hcounter, hpending, hproc, hmem⟩ := evaluated_hostTaking s (s.commandWrite 15 n tag)
  generalize s.hostTaking.evaluated (s.commandWrite 15 n tag) = x at htaken hport htime hcounter hpending hproc hmem
  refine ⟨_, htaken, blocksReset_of rfl rfl rfl (reset_queue_meetTake _) rfl rfl rfl, ?_, ?_, ?_, ?_, ?_, ?_, ?_⟩
  · simp [State.restart, State.resetBlocks, Port.reset, hport, hreset]
  · simp [State.restart, State.resetBlocks, Port.reset, hport, hdata]
  · simp [State.restart, htime, Config.resetDivisor]
  · rw [State.meetTake_proc, State.restart, setProc_proc, restarted_present, hproc]
    simp only [Processor.restarted, restartWrites_eq]
    rfl
  · simp [hcounter]
  · simp [hpending]
  · have hword : commandWord 15 n tag = BitVec.ofNat 16 (tag.toNat * 1024 + n.toNat * 16 + 15) := by
      have hnat : (commandWord 15 n tag).toNat = tag.toNat * 1024 + n.toNat * 16 + 15 := commandWord_toNat 15 n tag
      apply BitVec.eq_of_toNat_eq
      rw [BitVec.toNat_ofNat, ← hnat, Nat.mod_eq_of_lt (commandWord 15 n tag).isLt]
    rw [State.meetTake_mem, State.restart_mem, hmem, ← hword]
    exact writeWord_storesWord s.mem (s.cb Config.cbCommand) (commandWord 15 n tag)

/-! ## A take that a flush meets -/

theorem mem_classes : ∀ c : EventClass, c ∈ classes := by decide

theorem unreportedOf_countLost (q : EventQueue) (c : EventClass) :
    (q.countLost c).unreportedOf c = saturatingSucc (q.unreportedOf c) := by
  simp [EventQueue.unreportedOf, EventQueue.countLost]

/-- A loss is unreported until a LOSS record takes it (R76). -/
theorem hasUnreported_countLost (q : EventQueue) (c : EventClass) : (q.countLost c).hasUnreported = true := by
  refine List.any_eq_true.2 ⟨c, mem_classes c, ?_⟩
  rw [unreportedOf_countLost, bne_iff_ne]
  exact saturatingSucc_ne_zero _

theorem hasUnreported_of_unreported {q r : EventQueue} (h : r.unreported = q.unreported) :
    r.hasUnreported = q.hasUnreported := by
  simp only [EventQueue.hasUnreported, EventQueue.unreportedOf, h]

/-- An arrival leaves an unreported loss unreported (R70, R75). -/
theorem hasUnreported_arrive {q : EventQueue} (h : q.hasUnreported = true) (e : Event) :
    (q.arrive e).hasUnreported = true := by
  rcases q.arrive_cases e with ⟨-, heq⟩ | ⟨-, heq⟩ <;> rw [heq]
  · rw [hasUnreported_of_unreported (EventQueue.append_unreported _ e)]
    exact h
  · rcases EventQueue.arriveFull_cases { q with created := q.created + 1 } e with hf | ⟨z, -, -, hf⟩ <;> rw [hf]
    · exact hasUnreported_countLost _ _
    · rw [hasUnreported_of_unreported (EventQueue.append_unreported _ e)]
      exact hasUnreported_countLost _ _

/-- Whether a take has been met does not bear on an arrival. -/
theorem arrive_takeMet (q : EventQueue) (b : Bool) (e : Event) :
    EventQueue.arrive { q with takeMet := b } e = { q.arrive e with takeMet := b } := by
  have hdepth : EventQueue.depth { q with takeMet := b } = q.depth := rfl
  unfold EventQueue.arrive
  rw [hdepth]
  dsimp only
  split
  · rfl
  · have hleast : ∀ m, EventQueue.leastUrgent { q with created := m, takeMet := b } =
        EventQueue.leastUrgent { q with created := m } := fun _ => rfl
    unfold EventQueue.arriveFull
    rw [hleast]
    split
    · split <;> rfl
    · rfl

/-- A take that one part of an act's arrivals has met is met by the whole act (R74, log 22). -/
theorem meetTake_arrive_meetTake (q : EventQueue) (due : Bool) (e : Event) :
    ((q.meetTake due).arrive e).meetTake due = (q.arrive e).meetTake due := by
  obtain ⟨-, -, hmet⟩ := q.arrive_totals e
  have h := @hasUnreported_arrive q
  have hinner : (q.meetTake due).arrive e = { q.arrive e with takeMet := q.takeMet || (due && q.hasUnreported) } :=
    arrive_takeMet q _ e
  have hun : ∀ b, EventQueue.hasUnreported { q.arrive e with takeMet := b } = (q.arrive e).hasUnreported := fun _ => rfl
  rw [hinner]
  simp only [EventQueue.meetTake, hun, hmet]
  congr 1
  cases hq : q.hasUnreported
  · simp
  · simp [h hq e]

theorem meetTake_meetTake (q : EventQueue) (due : Bool) : (q.meetTake due).meetTake due = q.meetTake due := by
  have hun : ∀ b, EventQueue.hasUnreported { q with takeMet := b } = q.hasUnreported := fun _ => rfl
  simp only [EventQueue.meetTake, hun, Bool.or_assoc, Bool.or_self]

/-- The queue after a flush in an act whose earlier events have met the take. -/
theorem queueAfterFlush_meetTake (s t : State) (n : Index) :
    ((s.meetTake t).queueAfterFlush n).meetTake s.takeDue = (t.queueAfterFlush n).meetTake s.takeDue := by
  have hentry : (s.meetTake t).entry n = t.entry n := rfl
  unfold State.queueAfterFlush
  rw [hentry]
  split
  · exact meetTake_meetTake _ _
  · exact meetTake_arrive_meetTake _ _ _

/-! ## Commands that the Watch Table takes -/

/-- A command whose result is known, in the act of its write. -/
theorem meetTake_beginPublishing (s t : State) (c : CommandSlot) (r : ResultCode) :
    s.meetTake (t.beginPublishing c r []) = { s.meetTake t with proc := t.proc.ended c r } := rfl

/-- An entry after the flush of a SUSPEND, a DISARM or a RETUNE, with its events counted (R48 to R50). -/
theorem flushedQuiet_eq (s : State) (n : Index) :
    (s.entry n).flushedQuiet = { s.entry n with
      eventCount := s.eventCountAfterFlush n
      merge := ⟨0, 0, 0, 0⟩
      holdoffState := .quiet
      holdoffRemaining := 0 } := by
  unfold Entry.flushedQuiet Entry.flushed State.eventCountAfterFlush
  split <;> rfl

/-- A request that writes entry n and hands a flush's events, in the act of its write. -/
theorem meetTake_flushed (s t : State) (n : Index) (e : Entry) :
    s.meetTake ((t.setEntry n e).emitAll (t.flushEvents n)) = { s.meetTake t with
      entries := (s.meetTake t).entries.set n.toNat e n.isLt
      queue := ((s.meetTake t).queueAfterFlush n).meetTake s.takeDue } := by
  rw [queueAfterFlush_meetTake, ← queue_flushEvents]
  rfl

theorem entry_meetTake (s t : State) (n : Index) : (s.meetTake t).entry n = t.entry n := rfl

/-- The state in which the write of a command word has been judged, as the queue's meeting with the take leaves it. -/
theorem commandJudged_eq (s : State) (op : Opcode) (n : Index) (tag : CommandTag) :
    s.commandJudged op n tag = s.hostTaking.meetTake (s.hostTaking.evaluated (s.commandWrite op n tag)) := rfl

/-- A command whose request the Watch Table takes at IDLE, in the act of its write: the request is made of the table
that the write's judgement left, and the processor ends the command with its result (R111, R117). -/
theorem takeCommandWrite_request {s : State} (h : s.hostReady) (hs : s.proc.state = .idle) {op : Opcode} (h0 : op ≠ 0)
    (h15 : op ≠ 15) (n : Index) (tag : CommandTag) {request : State → State × ResultCode}
    (hcommand : ∀ t : State, t.takeCommand ⟨op, n, tag⟩ = (request t).1.beginPublishing ⟨op, n, tag⟩ (request t).2 [])
    (hproc : ∀ t, (request t).1.proc = t.proc) :
    let t := s.hostTaking.evaluated (s.commandWrite op n tag)
    s.takeCommandWrite op n tag =
      { s.hostTaking.meetTake (request t).1 with proc := s.proc.ended ⟨op, n, tag⟩ (request t).2 } := by
  intro t
  have hp : (request t).1.proc = s.proc := (hproc t).trans ((evaluated_proc _ _).trans (hostTaking_proc s))
  rw [takeCommandWrite_of_idle h hs h0 h15, hcommand, meetTake_beginPublishing, hp]

/-- Settles O31: the cases of `suspendRequest` after the write has been judged. -/
theorem suspendStopsTimers : Obligations.SuspendStopsTimers := by
  intro n tag s h hs
  have htaken := takeCommandWrite_request (op := 3) h hs (by decide) (by decide) n tag
    (request := fun t => t.suspendRequest n) (fun _ => rfl) fun t => suspendRequest_proc t n
  have hexec : exec (.suspend n tag) s = .next (s.takeCommandWrite 3 n tag) := rfl
  dsimp only
  rw [hexec, htaken, commandJudged_eq, entry_meetTake]
  generalize s.hostTaking.evaluated (s.commandWrite 3 n tag) = t
  refine ⟨?_, ?_, fun ha => ?_⟩
  · rintro (hst | hst) <;> simp only [State.suspendRequest, hst]
  · intro hst
    simp only [State.suspendRequest, hst]
  · rw [suspendRequest_eq_of_armed ha, meetTake_flushed, hostTaking_takeDue, Entry.suspend, flushedQuiet_eq]
    rfl

/-- Settles O32: the cases of `resumeRequest` after the write has been judged. -/
theorem resumeStartsDeadline : Obligations.ResumeStartsDeadline := by
  intro n tag s h hs
  have htaken := takeCommandWrite_request (op := 4) h hs (by decide) (by decide) n tag
    (request := fun t => t.resumeRequest n) (fun _ => rfl) fun t => resumeRequest_proc t n
  have hexec : exec (.resume n tag) s = .next (s.takeCommandWrite 4 n tag) := rfl
  dsimp only
  rw [hexec, htaken, commandJudged_eq, entry_meetTake]
  generalize s.hostTaking.evaluated (s.commandWrite 4 n tag) = t
  refine ⟨?_, ?_, fun hst => ?_⟩
  · rintro (hst | hst) <;> simp only [State.resumeRequest, hst]
  · intro hst
    simp only [State.resumeRequest, hst]
  · have hentry : (t.entry n).resume = { t.entry n with
        state := .armed
        holdoffState := .quiet
        missCount := 0
        deadlineRemaining := (t.entry n).deadline
        deadlineState := if (t.entry n).deadline = 0 then .off else .running } := by
      by_cases hd : (t.entry n).deadline = 0
      · simp only [Entry.resume, Entry.startDeadline, hd, ne_eq, not_true_eq_false, and_false, if_false, if_true]
      · simp only [Entry.resume, Entry.startDeadline, hd, ne_eq, not_false_eq_true, and_self, if_false, if_true]
    rw [resumeRequest_eq_of_suspended hst, hentry]
    rfl

/-! ## DISARM -/

theorem voidClaim_eq (sc : Scrubber) (n : Index) :
    sc.voidClaim n = { sc with claim := sc.claim.map fun c => { c with void := c.void || decide (c.entry = n) } } := by
  unfold Scrubber.voidClaim
  congr 2
  funext c
  split
  next hc => simp [hc]
  next hc => simp [hc]

/-- A flush and the freeing of its entry, in one state (R19, R49). -/
theorem freeEntry_flushMerge (t : State) (n : Index) :
    (t.flushMerge n).freeEntry n = { t with
      entries := t.entries.set n.toNat Entry.free n.isLt
      slots := ((t.flushMerge n).freeEntry n).slots
      freeCount := t.freeCount + (t.entry n).span.toNat
      queue := t.queueAfterFlush n
      scrubber := t.scrubber.voidClaim n } := by
  have hspan : ((t.flushMerge n).entry n).span = (t.entry n).span := by
    rw [flushMerge_eq, entry_emitAll, entry_setEntry_same, (flushed_kept _).span]
  rw [← queue_flushEvents, freeEntry_eq, hspan]
  simp only [flushMerge_eq, setEntry_emitAll, setEntry_setEntry]
  rfl

theorem slot_freeEntry_flushMerge (t : State) (n : Index) (k : SlotNumber) :
    ((t.flushMerge n).freeEntry n).slot k =
      if k ∈ (t.entry n).slots then { t.slot k with held := false } else t.slot k := by
  rw [slot_freeEntry, flushMerge_eq, entry_emitAll, entry_setEntry_same, (flushed_kept _).slots]
  rfl

/-- Settles O30: the cases of `disarmRequest` after the write has been judged. -/
theorem disarmFreesEntry : Obligations.DisarmFreesEntry := by
  intro n tag s h hs
  have htaken := takeCommandWrite_request (op := 2) h hs (by decide) (by decide) n tag
    (request := fun t => t.disarmRequest n) (fun _ => rfl) fun t => disarmRequest_proc t n
  have hexec : exec (.disarm n tag) s = .next (s.takeCommandWrite 2 n tag) := rfl
  dsimp only
  rw [hexec, htaken, commandJudged_eq, entry_meetTake]
  generalize s.hostTaking.evaluated (s.commandWrite 2 n tag) = t
  refine ⟨?_, fun hst => ⟨_, rfl, ?_, fun k => ?_⟩⟩
  · rintro (hst | hst) <;> simp only [State.disarmRequest, hst]
  · have hqueue := queueAfterFlush_meetTake s.hostTaking t n
    rw [hostTaking_takeDue] at hqueue
    rw [hqueue, disarmRequest_eq hst, ← hostTaking_takeDue]
    dsimp only
    rw [freeEntry_flushMerge, voidClaim_eq]
    rfl
  · rw [disarmRequest_eq hst]
    exact slot_freeEntry_flushMerge t n k

end Sys2Proof.Machine
end

section
/-! PROOFS. One host write at the Shadow Store (O11). -/

namespace Sys2Proof.Machine

/-- What a write leaves in a slot depends on the entry and on the slot it is written to. -/
theorem slotAfterWrite_congr {s t : State} {w : HostWrite} {n : Index} (he : t.entry n = s.entry n)
    (hs : t.slot (s.writtenSlot w n) = s.slot (s.writtenSlot w n)) : t.slotAfterWrite w n = s.slotAfterWrite w n := by
  simp only [State.writtenSlot] at hs
  simp only [State.slotAfterWrite, State.newValue, State.oldValue, State.shadow, State.unprimed, he, hs]

theorem writtenSlot_congr {s t : State} {w : HostWrite} {n : Index} (he : t.entry n = s.entry n) :
    t.writtenSlot w n = s.writtenSlot w n := by
  simp only [State.writtenSlot, he]

theorem entry_writeAtEntry_ne (s : State) (w : HostWrite) {n m : Index} (hf : (s.entry n).state ≠ .free) (hm : m ≠ n) :
    (State.writeAtEntry w n s).entry m = s.entry m := by
  rw [writeAtEntry_eq s w n hf, entry_emitAll, entry_setSlot, entry_setEntry_ne s _ hm]

theorem slot_writeAtEntry (s : State) (w : HostWrite) {n : Index} (hf : (s.entry n).state ≠ .free) (k : SlotNumber) :
    (State.writeAtEntry w n s).slot k = if k = s.writtenSlot w n then s.slotAfterWrite w n else s.slot k := by
  rw [writeAtEntry_eq s w n hf, slot_emitAll, slot_setSlot, slot_setEntry]

/-- A write at several entries that have no slot in common: each entry's slot is written as if it were the only one, and
no other slot changes. -/
theorem slot_writeEach (w : HostWrite) (ns : List Index) (hnodup : ns.Nodup) (s : State)
    (hf : ∀ n ∈ ns, (s.entry n).state ≠ .free)
    (hinj : ∀ n ∈ ns, ∀ m ∈ ns, s.writtenSlot w n = s.writtenSlot w m → n = m) :
    (∀ n ∈ ns, (s.forEach ns (State.writeAtEntry w)).slot (s.writtenSlot w n) = s.slotAfterWrite w n) ∧
      ∀ k, (∀ n ∈ ns, s.writtenSlot w n ≠ k) → (s.forEach ns (State.writeAtEntry w)).slot k = s.slot k := by
  induction ns generalizing s with
  | nil => exact ⟨nofun, fun _ _ => rfl⟩
  | cons n ns ih =>
    obtain ⟨hn, hnodup⟩ := List.nodup_cons.1 hnodup
    have hfn : (s.entry n).state ≠ .free := hf n (by simp)
    have hentry : ∀ m ∈ ns, (State.writeAtEntry w n s).entry m = s.entry m := fun m hm =>
      entry_writeAtEntry_ne s w hfn fun h => hn (h ▸ hm)
    have hslot : ∀ m ∈ ns, (State.writeAtEntry w n s).writtenSlot w m = s.writtenSlot w m := fun m hm =>
      writtenSlot_congr (hentry m hm)
    have hdistinct : ∀ m ∈ ns, s.writtenSlot w m ≠ s.writtenSlot w n := fun m hm h =>
      hn (hinj m (by simp [hm]) n (by simp) h ▸ hm)
    obtain ⟨hwritten, hkept⟩ := ih hnodup (State.writeAtEntry w n s)
      (fun m hm => by rw [hentry m hm]; exact hf m (by simp [hm]))
      fun m hm p hp h => hinj m (by simp [hm]) p (by simp [hp]) (by rwa [hslot m hm, hslot p hp] at h)
    have hafter : ∀ m ∈ ns, (State.writeAtEntry w n s).slotAfterWrite w m = s.slotAfterWrite w m := fun m hm =>
      slotAfterWrite_congr (hentry m hm) (by rw [slot_writeAtEntry s w hfn, if_neg (hdistinct m hm)])
    refine ⟨fun m hm => ?_, fun k hk => ?_⟩
    · rcases List.mem_cons.1 hm with rfl | hm
      · refine (hkept _ fun p hp => ?_).trans ?_
        · rw [hslot p hp]
          exact hdistinct p hp
        · rw [slot_writeAtEntry s w hfn, if_pos rfl]
      · rw [← hafter m hm, ← hslot m hm]
        exact hwritten m hm
    · refine (hkept k fun p hp => ?_).trans ?_
      · rw [hslot p hp]
        exact hk p (by simp [hp])
      · rw [slot_writeAtEntry s w hfn, if_neg (Ne.symm (hk n (by simp)))]

theorem holders_nodup (s : State) (a : Addr) : (s.holders a).Nodup := entryNumbers_nodup.filter _

/-- The Shadow Store after one write (R9, R14, R16, R28, R29). -/
theorem slot_evaluate {s : State} (h : s.slotsWf) (w : HostWrite) :
    (∀ n, (s.entry n).holds w.addr = true → (s.evaluate w).slot (s.writtenSlot w n) = s.slotAfterWrite w n) ∧
      ∀ k, (∀ n, (s.entry n).holds w.addr = true → s.writtenSlot w n ≠ k) → (s.evaluate w).slot k = s.slot k := by
  obtain ⟨hwritten, hkept⟩ := slot_writeEach w (s.holders w.addr) (holders_nodup s w.addr) s
    (fun n hn => not_free_of_holds (mem_holders.1 hn))
    fun n hn m hm hs => (slotAt_injective h (offsetOf_lt (mem_holders.1 hn)) (offsetOf_lt (mem_holders.1 hm)) hs).1
  exact ⟨fun n hn => hwritten n (mem_holders.2 hn), fun k hk => hkept k fun n hn => hk n (mem_holders.1 hn)⟩

/-- A host write to a word that is neither COMMAND nor CONSUME is its judgement and no more (R132). -/
theorem hostWriteTaken_judged {s : State} {w : HostWrite} (hl : anyLane w.lanes = true)
    (hcommand : w.addr ≠ s.cb Config.cbCommand) (hconsume : w.addr ≠ s.cb Config.cbConsume) :
    s.hostWriteTaken w = s.judged w := by
  simp only [State.hostWriteTaken, State.announceWrite, hl, Bool.not_true, Bool.false_eq_true, if_false,
    if_neg hcommand, if_neg hconsume]
  rfl

/-- Settles O11: the write's judgement at the Shadow Store, in the state in which the port takes it. -/
theorem writeAtShadows : Obligations.WriteAtShadows := by
  intro w s h hslots hlane
  have hcb : ∀ o, s.hostTaking.cb o = s.cb o := fun o => by rw [hostTaking_eq]; rfl
  refine ⟨fun hcommand hconsume => ?_, ?_⟩
  · show Host.Outcome.next (s.takeHostWrite w) = _
    have hl : anyLane w.lanes = true := hlane
    rw [takeHostWrite_of_ready h, hostWriteTaken_judged hl (by rw [hcb]; exact hcommand) (by rw [hcb]; exact hconsume)]
  · have hwf : State.slotsWf
        { s with port := s.hostTaking.port, mem := Memory.writeLanes s.mem w.addr w.lanes w.data } := hslots
    rw [hostTaking_eq]
    exact slot_evaluate hwf w

end Sys2Proof.Machine
end

section
/-! PROOFS. The last read of a command: LOAD (O41) and RETUNE (O42); and the prime reads (O46). -/

namespace Sys2Proof.Machine

/-! ## The last read of a command -/

/-- The port's fields are all that `internalTaking` changes. -/
theorem internalTaking_eq (s : State) : s.internalTaking = { s with port := s.internalTaking.port } := by
  unfold State.internalTaking
  rcases grant_cases s with h | ⟨-, -, -, a, -, h⟩ | ⟨-, -, c, -, -, h⟩ <;> rw [h]
  · rfl
  · cases a <;> rfl
  · rfl

/-- The words a command reads are those of its reads, in order (R114). -/
theorem commandReads_eq (c : CommandSlot) : commandReads c = (List.range (wordsToRead c.opcode)).map (readOffset c) := by
  obtain ⟨op, n, tag⟩ := c
  by_cases h15 : op = 1 ∨ op = 5
  · rcases h15 with rfl | rfl <;> rfl
  by_cases h8 : op = 8
  · subst h8; rfl
  by_cases h9 : op = 9
  · subst h9; rfl
  by_cases h10 : op = 10
  · subst h10; rfl
  have hnone : wordsToRead op = 0 := by
    rw [← readCount_eq, if_neg h15, if_neg h8, if_neg h9, if_neg h10]
  simp only [commandReads, if_neg h15, if_neg h8, if_neg h9, if_neg h10, hnone, List.range_zero, List.map_nil]

theorem readOffset_of_getElem? {c : CommandSlot} {k offset : Nat} (h : (commandReads c)[k]? = some offset) :
    readOffset c k = offset := by
  rw [commandReads_eq, List.getElem?_map, Option.map_eq_some_iff] at h
  obtain ⟨j, hj, rfl⟩ := h
  obtain ⟨-, rfl⟩ := List.getElem?_eq_some_iff.1 hj
  rw [List.getElem_range]

/-- An event due to be taken is not one of a queue with a loss unreported, so a take meets nothing in an act that hands
no event (R72). -/
theorem meetTake_takeDue (s : State) : s.queue.meetTake s.takeDue = s.queue := by
  cases h : s.queue.hasUnreported
  · exact EventQueue.meetTake_of_no_loss _ _ h
  · simp [State.takeDue, h]

/-- The last read of a command (R114): the command goes on in the state in which its words have been read. -/
theorem commandRead_last {s : State} {c : CommandSlot} {earlier : List Nat} {offset : Nat}
    (h : s.readsNext c earlier offset []) :
    exec .commandRead s =
      .next (s.meetTake ((s.afterRead offset).finishReading c (s.afterRead offset).proc.readWords)) := by
  obtain ⟨hready, hclaim, hstate, hslot, hreads, hlen⟩ := h
  have hc : s.proc.commandReadClaim = some c := by simp [Processor.commandReadClaim, hclaim, hstate, hslot]
  have hoffset : readOffset c s.proc.readWords.length = offset :=
    readOffset_of_getElem? (by rw [hreads, ← hlen]; simp)
  have hlast : ¬s.proc.readWords.length + 1 < wordsToRead c.opcode := by
    rw [← commandReads_length, hreads, ← hlen]
    simp
  have hexec : exec .commandRead s = .next (s.internalTaking.commandReadTaken c) := by
    show execCommandRead s = _
    simp only [execCommandRead, hc, takeInternal_of_ready hready]
  rw [hexec, State.afterRead, internalTaking_eq]
  simp only [State.commandReadTaken, List.length_append, List.length_singleton, if_neg hlast, hoffset]
  rfl

/-- What the read of a word leaves alone. -/
theorem afterRead_frame (s : State) (offset : Nat) :
    (s.afterRead offset).entries = s.entries ∧ (s.afterRead offset).slots = s.slots ∧
      (s.afterRead offset).freeCount = s.freeCount ∧ (s.afterRead offset).queue = s.queue ∧
      (s.afterRead offset).journal = s.journal ∧ (s.afterRead offset).timebase = s.timebase ∧
      (s.afterRead offset).proc.cbsel = s.proc.cbsel := by
  rw [State.afterRead, internalTaking_eq]
  exact ⟨rfl, rfl, rfl, rfl, rfl, rfl, rfl⟩

/-- An act that leaves the queue alone meets no take. -/
theorem meetTake_eq_self {s t : State} (hq : t.queue = s.queue) : s.meetTake t = t := by
  have hmeet : t.queue.meetTake s.takeDue = t.queue := by rw [hq, meetTake_takeDue]
  simp only [State.meetTake, hmeet]

/-- A command that ends with a result in the act of its last read, which hands no event. -/
theorem meetTake_publish {s b : State} (hq : b.queue = s.queue) (r : ResultCode) :
    s.meetTake (b.publish r) = { b with proc := b.proc.publishing r } := meetTake_eq_self hq

/-! ## Forbidden places -/

/-- Two runs have a word in common exactly when some word lies in both. -/
theorem runsMeet_iff (a n b m : Nat) : runsMeet a n b m = true ↔ ∃ x, a ≤ x ∧ x < a + n ∧ b ≤ x ∧ x < b + m := by
  simp only [runsMeet, Bool.and_eq_true, decide_eq_true_eq]
  refine ⟨fun h => ⟨max a b, ?_⟩, fun ⟨x, h⟩ => ?_⟩ <;> omega

/-- The check of R10 is that some word lies in a forbidden place. -/
theorem forbidden_iff (s : State) (first count : Nat) :
    s.forbidden first count = true ↔ ∃ x, first ≤ x ∧ x < first + count ∧ s.forbiddenWord x := by
  have hcb : (s.cb 0).toNat = s.proc.cbsel.toNat * 0x40000 := by
    rw [cb_toNat s (by norm_num), Nat.add_zero]
  simp only [State.forbidden, State.partOwned, Journal.covers, Bool.or_eq_true, runsMeet_iff, hcb, State.forbiddenWord,
    Config.cbCompletion, Config.cbSummary, Config.cbReport]
  constructor
  · rintro (⟨x, h⟩ | (⟨x, h⟩ | ⟨x, h⟩) | ⟨x, h⟩) <;> exact ⟨x, by omega⟩
  · rintro ⟨x, hlo, hhi, h | h | h | h⟩
    · exact .inl ⟨x, hlo, hhi, h⟩
    · exact .inr (.inl (.inl ⟨x, by omega⟩))
    · exact .inr (.inl (.inr ⟨x, by omega⟩))
    · exact .inr (.inr ⟨x, by omega⟩)

/-! ## LOAD -/

/-- The checks of a LOAD, each where those before it pass (R12). -/
theorem loadCheck_inuse {s : State} {n : Index} (d : Descriptor) (hf : (s.entry n).state ≠ .free) :
    s.loadCheck n d = some .inuse := if_pos hf

theorem loadCheck_of_free {s : State} {n : Index} (d : Descriptor) (hf : ¬(s.entry n).state ≠ .free) :
    s.loadCheck n d =
      if d.illegal then some .baddesc
      else if s.freeCount < d.span.toNat then some .noroom
      else if s.forbidden d.base.toNat d.span.toNat then some .overlap
      else none := if_neg hf

/-- The sense of a legal descriptor's code (R30). -/
theorem senseOf_of_legal {d : Descriptor} (h : ¬d.isIllegal) : senseOf d.senseCode = some ((senseOf d.senseCode).getD .rise) := by
  have hcode : ¬(d.senseCode = 6 ∨ d.senseCode = 7) := fun hc => h (.inr (.inr (.inl hc)))
  rw [← senseOf_none_iff] at hcode
  cases hs : senseOf d.senseCode with
  | none => exact absurd (by rw [hs]; rfl) hcode
  | some v => rfl

theorem withRule_hasRule {d : Descriptor} (h : ¬d.isIllegal) (e : Entry) : (e.withRule d).hasRule d :=
  ⟨senseOf_of_legal h, rfl, rfl, rfl, rfl, rfl, rfl, rfl⟩

/-- Settles O41: the checks of `loadCheck` in their order, and then `loadEntry`. -/
theorem loadChecksThenPrimes : Obligations.LoadChecksThenPrimes := by
  intro c earlier offset s h hop hslots n b d fails inuse noroom overlap claimed
  obtain ⟨he, hsl, hfc, hq, hj, -, hcb⟩ := afterRead_frame s offset
  have hexec : exec .commandRead s = .next (s.meetTake (b.finishLoad n d)) := by
    rw [commandRead_last h]
    simp only [State.finishReading, hop]
    rfl
  have hforbidden : b.forbidden d.base.toNat d.span.toNat = true ↔ overlap := by
    rw [forbidden_congr (s := s) (by rw [hj]; exact .refl _) hcb]
    exact forbidden_iff s _ _
  have hentry : b.entry n = s.entry n := entry_of_entries he n
  have hfail : ∀ r, b.loadCheck n d = some r → fails r := fun r hr => by
    show exec .commandRead s = _
    rw [hexec, State.finishLoad, hr]
    exact congrArg Host.Outcome.next (meetTake_publish hq r)
  have hfree : ¬inuse → b.loadCheck n d = _ := fun hu => loadCheck_of_free d (hentry ▸ hu)
  refine ⟨fun hu => hfail _ (loadCheck_inuse d (hentry ▸ hu)), fun hu hi => hfail _ ?_, fun hu hi hr => hfail _ ?_,
    fun hu hi hr ho => hfail _ ?_, fun hu hi hr ho => ?_⟩
  · rw [hfree hu, if_pos ((illegal_iff d).2 hi)]
  · rw [hfree hu, if_neg (mt (illegal_iff d).1 hi), if_pos (hfc ▸ hr)]
  · rw [hfree hu, if_neg (mt (illegal_iff d).1 hi), if_neg (hfc ▸ hr), if_pos (hforbidden.2 ho)]
  · have hcheck : b.loadCheck n d = none := by
      rw [hfree hu, if_neg (mt (illegal_iff d).1 hi), if_neg (hfc ▸ hr), if_neg (mt hforbidden.1 ho)]
    have hclaimed : b.freeSlots = s.freeSlots := freeSlots_of_held fun k => by rw [slot_of_slots hsl]
    have hcount : (b.freeSlots.take d.span.toNat).length = d.span.toNat := by
      rw [hclaimed]
      exact claimed_length hslots (Nat.le_of_not_lt hr)
    have hloaded : ((b.loadEntry n d).setProc { b.proc with state := .filling }).entry n = loadedEntry d claimed := by
      rw [entry_of_entries (State.setProc_entries _ _), entry_loadEntry, if_pos rfl, hclaimed]
    have hqueue : (b.loadEntry n d).queue = s.queue := by rw [loadEntry_eq]; exact hq
    have hnext : exec .commandRead s = .next ((b.loadEntry n d).setProc { b.proc with state := .filling }) := by
      rw [hexec, State.finishLoad, hcheck]
      exact congrArg Host.Outcome.next (meetTake_eq_self hqueue)
    refine ⟨_, hnext, ?_, fun k => ?_, ?_, ?_⟩
    · have hload := loadEntry_eq b n d
      rw [hcount, hclaimed, hfc] at hload
      rw [hloaded]
      show State.setProc _ _ = { b with
        entries := _, slots := (b.loadEntry n d).slots, freeCount := _, proc := _ }
      generalize (b.loadEntry n d).slots = slots at hload ⊢
      rw [hload]
      rfl
    · have hslot := slot_loadEntry b n d k
      rwa [hclaimed, slot_of_slots hsl] at hslot
    · rw [hloaded]
      exact withRule_hasRule hi _
    · rw [hloaded]
      rfl

/-! ## RETUNE -/

theorem queueAfterFlush_congr {s t : State} {n : Index} (he : t.entries = s.entries) (hq : t.queue = s.queue)
    (ht : t.timebase = s.timebase) : t.queueAfterFlush n = s.queueAfterFlush n := by
  simp only [State.queueAfterFlush, State.mergedEvent, entry_of_entries he, hq, ht]

/-- The checks of a RETUNE where the entry is ARMED or SUSPENDED (R22). -/
theorem retuneCheck_of_armed {s : State} {n : Index} (d : Descriptor)
    (hf : ¬((s.entry n).state = .free ∨ (s.entry n).state = .priming)) :
    s.retuneCheck n d =
      if d.illegal then some .baddesc
      else if (s.entry n).base ≠ d.base ∨ (s.entry n).span ≠ d.span then some .mismatch
      else none := if_neg hf

/-- Entry n after a RETUNE, field by field (R22, R50, R64). -/
theorem retune_eq (s : State) (n : Index) (d : Descriptor) :
    (s.entry n).retune d = { s.entry n with
      sense := (senseOf d.senseCode).getD .rise
      mask := d.mask
      pattern := d.pattern
      cls := d.cls
      tag := d.tag
      holdoff := d.holdoff
      deadline := d.deadline
      missLimit := d.missLimit
      eventCount := s.eventCountAfterFlush n
      merge := ⟨0, 0, 0, 0⟩
      holdoffState := .quiet
      holdoffRemaining := 0
      missCount := 0
      deadlineState := if (s.entry n).state = .armed ∧ d.deadline ≠ 0 then .running else .off
      deadlineRemaining := if (s.entry n).state = .armed then d.deadline else 0 } := by
  rw [Entry.retune, flushedQuiet_eq]
  by_cases ha : (s.entry n).state = .armed
  · by_cases hd : d.deadline = 0#16 <;> simp [Entry.startDeadline, Entry.withRule, ha, hd]
  · simp [Entry.startDeadline, Entry.withRule, ha]

/-- Settles O42: the checks of `retuneCheck` in their order, and then the flush and the new rule. -/
theorem retuneReplacesRule : Obligations.RetuneReplacesRule := by
  intro c earlier offset s h hop n b d e fails notarmed mismatch
  obtain ⟨he, hsl, hfc, hq, hj, ht, hcb⟩ := afterRead_frame s offset
  have hexec : exec .commandRead s = .next (s.meetTake (b.finishRetune n d)) := by
    rw [commandRead_last h]
    simp only [State.finishReading, hop]
    rfl
  have hentry : b.entry n = e := entry_of_entries he n
  have hfail : ∀ r, b.retuneCheck n d = some r → fails r := fun r hr => by
    show exec .commandRead s = _
    rw [hexec, State.finishRetune, State.retuneRequest, hr]
    exact congrArg Host.Outcome.next (meetTake_publish hq r)
  have harmed : ¬notarmed → b.retuneCheck n d = _ := fun hn => retuneCheck_of_armed d (hentry ▸ hn)
  refine ⟨fun hn => hfail _ (if_pos (hentry ▸ hn)), fun hn hi => hfail _ ?_, fun hn hi hm => hfail _ ?_,
    fun hn hi hm => ?_⟩
  · rw [harmed hn, if_pos ((illegal_iff d).2 hi)]
  · rw [harmed hn, if_neg (mt (illegal_iff d).1 hi), if_pos (hentry ▸ hm)]
  · have hcheck : b.retuneCheck n d = none := by
      rw [harmed hn, if_neg (mt (illegal_iff d).1 hi), if_neg (hentry ▸ hm)]
    have hnext : exec .commandRead s =
        .next (s.meetTake (((b.setEntry n ((b.entry n).retune d)).emitAll (b.flushEvents n)).publish .done)) := by
      rw [hexec, State.finishRetune, retuneRequest_eq_of_check hcheck]
    have hnew : (b.setEntry n ((b.entry n).retune d)).entry n = (s.entry n).retune d := by
      rw [entry_setEntry_same, hentry]
    refine ⟨_, hnext, ?_, ?_, ?_⟩
    · rw [← queueAfterFlush_congr he hq ht, ← queue_flushEvents]
      show _ = { b with entries := b.entries.set n.toNat ((b.setEntry n ((b.entry n).retune d)).entry n) n.isLt, queue := _, proc := _ }
      rw [entry_setEntry_same]
      rfl
    · show ((b.setEntry n ((b.entry n).retune d)).entry n).hasRule d
      rw [hnew, retune_eq]
      exact ⟨senseOf_of_legal hi, rfl, rfl, rfl, rfl, rfl, rfl, rfl⟩
    · show (b.setEntry n ((b.entry n).retune d)).entry n = { e with
        sense := ((b.setEntry n ((b.entry n).retune d)).entry n).sense, mask := _, pattern := _, cls := _, tag := _
        holdoff := _, deadline := _, missLimit := _, eventCount := _, merge := _, holdoffState := _
        holdoffRemaining := _, missCount := _, deadlineState := _, deadlineRemaining := _ }
      rw [hnew, retune_eq]

/-! ## Prime reads -/

/-- The processor's access is the next prime read of the entry of the command in the slot (R13). -/
theorem primeReadClaim_of_filling {s : State} {c : CommandSlot} (hclaim : s.proc.claim = some .work)
    (hstate : s.proc.state = .filling) (hslot : s.proc.slot = some c) (hpriming : (s.entry c.operand).state = .priming) :
    s.primeReadClaim = some c.operand := by
  simp [State.primeReadClaim, hclaim, hstate, hslot, hpriming]

theorem internalTaking_entries (s : State) : s.internalTaking.entries = s.entries := by rw [internalTaking_eq]

theorem internalTaking_proc (s : State) : s.internalTaking.proc = s.proc := by rw [internalTaking_eq]

theorem internalTaking_entry (s : State) (n : Index) : s.internalTaking.entry n = s.entry n :=
  entry_of_entries (internalTaking_entries s) n

/-- The word of a prime read, its address as a number (R13). -/
theorem primeWord_eq (s : State) (n : Index) :
    s.primeWord n =
      Memory.readWord s.mem (BitVec.ofNat 20 ((s.entry n).base.toNat + (s.entry n).primeProgress.toNat)) := by
  rw [State.primeWord, State.readWord, BitVec.ofNat_add, BitVec.ofNat_toNat 20 (s.entry n).base, BitVec.setWidth_eq]

/-- A PRIMING entry at the end of its priming, field by field (R17, R55): its holdoff is QUIET and its deadline OFF
with no misses, so only its state and its deadline can change. -/
theorem primed_eq {e : Entry} (hw : e.wf) (hs : e.state = .priming) :
    e.advanced.primed = { e with
      primeProgress := e.primeProgress + 1
      state := if e.primingTarget = .armed then .armed else .suspended
      deadlineState := if e.primingTarget = .armed ∧ e.deadline ≠ 0 then .running else .off
      deadlineRemaining := if e.primingTarget = .armed then e.deadline else 0 } := by
  obtain ⟨hquiet, -, -⟩ := quietened_of_wf hw (by simp [hs])
  obtain ⟨-, -, hmiss⟩ := deadline_off_of_wf hw (by simp [hs])
  cases ht : e.primingTarget with
  | armed => by_cases hd : e.deadline = 0#16 <;> simp [Entry.advanced, Entry.primed, Entry.startDeadline, ht, hd, hquiet, hmiss]
  | suspended => simp [Entry.advanced, Entry.primed, Entry.startDeadline, ht, hquiet, hmiss]

/-- Settles O46: `primeReadTaken`, before the last read and at it. -/
theorem primeReadCompletesSlot : Obligations.PrimeReadCompletesSlot := by
  intro c s hready hclaim hstate hslot hpriming hwf n e k read number slot value filled claimless
  have hexec : exec .primeRead s = .next (s.internalTaking.primeReadTaken n) := by
    show execPrimeRead s = _
    simp only [execPrimeRead, primeReadClaim_of_filling hclaim hstate hslot hpriming, takeInternal_of_ready hready]
    rfl
  have hentry : s.internalTaking.entry n = e := internalTaking_entry s n
  have hword : s.internalTaking.primeWord n = read := by
    rw [primeWord_eq, hentry, internalTaking_eq]
  have hfilled : s.internalTaking.primeShadow n k read = filled := by
    show _ = State.mk ..
    rw [internalTaking_eq]
    rfl
  have hentries : filled.entries = s.entries := internalTaking_entries s
  refine ⟨fun hnext => ?_, fun hlast => ?_⟩
  · rw [hexec, primeReadTaken_next (by rwa [hentry]), hentry, hword, hfilled, internalTaking_proc, State.setEntry, hentries]
    rfl
  · rw [hexec, primeReadTaken_last (by rw [hentry]; exact (hlast ▸ lt_irrefl _)), hentry, hword, hfilled, internalTaking_proc,
      primed_eq hwf hpriming, State.setEntry, hentries]
    rfl

end Sys2Proof.Machine
end

section
/-! PROOFS. The senses, bit by bit (O12). -/

namespace Sys2Proof.Machine

/-- A bit that the mask of an entry selects (R31). -/
def Entry.selects (e : Entry) (i : Nat) : Prop := i < 16 ∧ e.mask.getLsbD i = true

/-- A value whose selected bits are the pattern's (R33). -/
def Entry.fits (e : Entry) (v : Word) : Prop := ∀ i, e.selects i → v.getLsbD i = e.pattern.getLsbD i

theorem masked_ne_zero_iff (e : Entry) (x : Word) :
    (x &&& e.mask != 0) = true ↔ ∃ i, e.selects i ∧ x.getLsbD i = true := by
  rw [bne_iff_ne, ne_eq, ← not_iff_not, not_not]
  constructor
  · rintro h ⟨i, ⟨-, hmask⟩, hx⟩
    simpa [hmask, hx] using congrArg (BitVec.getLsbD · i) h
  · refine fun h => BitVec.eq_of_getLsbD_eq fun i hi => ?_
    cases hmask : e.mask.getLsbD i
    · simp [hmask]
    · have hx : x.getLsbD i = false := by simpa using fun hx => h ⟨i, ⟨hi, hmask⟩, hx⟩
      simp [hx]

theorem masked_beq_iff (e : Entry) (v : Word) : (v &&& e.mask == e.pattern &&& e.mask) = true ↔ e.fits v := by
  rw [beq_iff_eq]
  constructor
  · rintro h i ⟨-, hmask⟩
    simpa [hmask] using congrArg (BitVec.getLsbD · i) h
  · refine fun h => BitVec.eq_of_getLsbD_eq fun i hi => ?_
    cases hmask : e.mask.getLsbD i
    · simp [hmask]
    · simp [h i ⟨hi, hmask⟩]

/-- RISE: a selected bit goes from 0 to 1 (R32). -/
theorem triggers_rise_iff {e : Entry} (h : e.sense = .rise) (old new : Word) :
    e.triggers old new = true ↔ ∃ i, e.selects i ∧ old.getLsbD i = false ∧ new.getLsbD i = true := by
  simp only [Entry.triggers, h, masked_ne_zero_iff]
  refine exists_congr fun i => and_congr_right fun ⟨hi, _⟩ => ?_
  simp [hi]

/-- FALL: a selected bit goes from 1 to 0 (R32). -/
theorem triggers_fall_iff {e : Entry} (h : e.sense = .fall) (old new : Word) :
    e.triggers old new = true ↔ ∃ i, e.selects i ∧ old.getLsbD i = true ∧ new.getLsbD i = false := by
  simp only [Entry.triggers, h, masked_ne_zero_iff]
  refine exists_congr fun i => and_congr_right fun ⟨hi, _⟩ => ?_
  simp [hi]

/-- EITHER: a selected bit changes (R32). -/
theorem triggers_either_iff {e : Entry} (h : e.sense = .either) (old new : Word) :
    e.triggers old new = true ↔ ∃ i, e.selects i ∧ old.getLsbD i ≠ new.getLsbD i := by
  simp only [Entry.triggers, h, masked_ne_zero_iff]
  simp

/-- EITHER triggers where RISE or FALL would with the same mask (R32): a bit that changes rises or falls. -/
theorem triggers_either_iff_rise_or_fall {e : Entry} (h : e.sense = .either) (old new : Word) :
    e.triggers old new = true ↔
      ({ e with sense := .rise } : Entry).triggers old new = true ∨
        ({ e with sense := .fall } : Entry).triggers old new = true := by
  rw [triggers_either_iff h, triggers_rise_iff rfl, triggers_fall_iff rfl, ← exists_or]
  refine exists_congr fun i => ?_
  show e.selects i ∧ _ ↔ e.selects i ∧ _ ∨ e.selects i ∧ _
  rw [← and_or_left]
  cases old.getLsbD i <;> cases new.getLsbD i <;> simp

/-- ENTER: the new value matches the pattern and the old one does not (R33). -/
theorem triggers_enter_iff {e : Entry} (h : e.sense = .enter) (old new : Word) :
    e.triggers old new = true ↔ e.fits new ∧ ¬e.fits old := by
  simp only [Entry.triggers, h, Bool.and_eq_true, Bool.not_eq_true', ← Bool.not_eq_true, masked_beq_iff]

/-- LEAVE: the old value matches the pattern and the new one does not (R33). -/
theorem triggers_leave_iff {e : Entry} (h : e.sense = .leave) (old new : Word) :
    e.triggers old new = true ↔ e.fits old ∧ ¬e.fits new := by
  simp only [Entry.triggers, h, Bool.and_eq_true, Bool.not_eq_true', ← Bool.not_eq_true, masked_beq_iff]

/-- TOUCH: every write (R34). -/
theorem triggers_touch {e : Entry} (h : e.sense = .touch) (old new : Word) : e.triggers old new = true := by
  simp only [Entry.triggers, h]

/-- Settles O12, sense by sense. -/
theorem sensesJudgeSelectedBits : Obligations.SensesJudgeSelectedBits := fun _ old new =>
  ⟨fun h => triggers_rise_iff h old new, fun h => triggers_fall_iff h old new, fun h => triggers_either_iff h old new,
    fun h => triggers_either_iff_rise_or_fall h old new, fun h => triggers_enter_iff h old new,
    fun h => triggers_leave_iff h old new, fun h => triggers_touch h old new⟩

end Sys2Proof.Machine
end

section
/-! PROOFS. One host write at the Watch Table and the Event Queue: a write that no entry holds (O8), the events of a
write (O9), and the entries that hold its word (O10). -/

namespace Sys2Proof.Machine

/-! ## A write that no entry holds -/

/-- The Evaluator does nothing on a write that no entry holds (R25). -/
theorem evaluate_unmatched {s : State} {w : HostWrite} (h : ∀ n, (s.entry n).holds w.addr = false) : s.evaluate w = s := by
  have hnone : s.holders w.addr = [] := by simp [State.holders, h]
  rw [State.evaluate, hnone]
  rfl

/-- A write that no entry holds, to a word that is neither COMMAND nor CONSUME, is its store in memory (R140 to R142). -/
theorem hostWriteTaken_unmatched {s : State} {w : HostWrite} (hcommand : w.addr ≠ s.cb Config.cbCommand)
    (hconsume : w.addr ≠ s.cb Config.cbConsume) (h : ∀ n, (s.entry n).holds w.addr = false) :
    s.hostWriteTaken w = { s with mem := Memory.writeLanes s.mem w.addr w.lanes w.data } := by
  cases hl : anyLane w.lanes with
  | false =>
    simp only [State.hostWriteTaken, State.announceWrite, hl, Bool.not_false, if_true]
    exact meetTake_eq_self rfl
  | true =>
    rw [hostWriteTaken_judged hl hcommand hconsume, State.judged,
      evaluate_unmatched (s := { s with mem := Memory.writeLanes s.mem w.addr w.lanes w.data }) h]
    exact meetTake_eq_self rfl

theorem hostTaking_cb (s : State) (offset : Nat) : s.hostTaking.cb offset = s.cb offset := by rw [hostTaking_eq]; rfl

theorem hostTaking_entries (s : State) : s.hostTaking.entries = s.entries := by rw [hostTaking_eq]

theorem hostTaking_mem (s : State) : s.hostTaking.mem = s.mem := by rw [hostTaking_eq]

/-- Settles O8: the write taken is its store in memory. -/
theorem unmatchedWriteOnlyReachesMemory : Obligations.UnmatchedWriteOnlyReachesMemory := by
  intro a lanes data s h hcommand hconsume hholds
  have htaken : s.takeHostWrite ⟨a, lanes, data⟩ =
      { s.hostTaking with mem := Memory.writeLanes s.hostTaking.mem a lanes data } := by
    rw [takeHostWrite_of_ready h, hostWriteTaken_unmatched]
    · rwa [hostTaking_cb]
    · rwa [hostTaking_cb]
    · simpa only [State.entry, hostTaking_entries] using hholds
  refine ⟨_, congrArg Host.Outcome.next htaken, rfl, fun x => ?_⟩
  rw [readByte_writeLanes, hostTaking_mem]

/-! ## A write at the entries that hold its word -/

/-- Two states are the same for a write at entry n: the entry, the slot written, and the tick counter its events are
stamped with. -/
def State.SameFor (s t : State) (w : HostWrite) (n : Index) : Prop :=
  t.entry n = s.entry n ∧ t.slot (s.writtenSlot w n) = s.slot (s.writtenSlot w n) ∧ t.timebase = s.timebase

/-- What a write leaves in an entry, and the events it creates there, depend on nothing else. -/
theorem State.SameFor.judgement {s t : State} {w : HostWrite} {n : Index} (h : s.SameFor t w n) :
    t.writtenSlot w n = s.writtenSlot w n ∧ t.entryAfterWrite w n = s.entryAfterWrite w n ∧
      t.writeEvents w n = s.writeEvents w n := by
  obtain ⟨hentry, hslot, htime⟩ := h
  have hold : t.oldValue n w = s.oldValue n w := by
    simp only [State.writtenSlot] at hslot
    simp only [State.oldValue, State.shadow, hentry, hslot]
  have hnew : t.newValue n w = s.newValue n w := by rw [newValue_eq, newValue_eq, hold]
  have htriggers : t.writeTriggers n w = s.writeTriggers n w := by
    rw [State.writeTriggers, State.writeTriggers, hentry, hold, hnew]
  have hevent : ∀ kind count, t.writeEvent n w kind count = s.writeEvent n w kind count := fun kind count => by
    rw [State.writeEvent, State.writeEvent, hentry, hold, hnew, htime]
  have hevents : t.writeEvents w n = s.writeEvents w n := by
    rw [State.writeEvents, State.writeEvents, hentry, htriggers, hevent, hevent]
  refine ⟨writtenSlot_congr hentry, ?_, hevents⟩
  rw [State.entryAfterWrite, State.entryAfterWrite, hentry, htriggers, hevents, hold, hnew]

/-- A write at entry n changes nothing that the write at an entry with another written slot reads. -/
theorem State.SameFor.writeAtEntry {s t : State} {w : HostWrite} {m n : Index} (h : s.SameFor t w m)
    (hf : (t.entry n).state ≠ .free) (hmn : m ≠ n) (hslot : s.writtenSlot w m ≠ t.writtenSlot w n) :
    s.SameFor (State.writeAtEntry w n t) w m := by
  obtain ⟨hentry, hvalue, htime⟩ := h
  refine ⟨?_, ?_, ?_⟩
  · rw [entry_writeAtEntry_ne t w hf hmn, hentry]
  · rw [slot_writeAtEntry t w hf, if_neg hslot, hvalue]
  · rw [State.writeAtEntry_timebase, htime]

/-- A write at several entries that have no slot in common: each is left as if it were the only one, and their events
arrive in the order of the list. -/
theorem judgement_writeEach (s : State) (w : HostWrite) (ns : List Index) (hnodup : ns.Nodup)
    (hf : ∀ n ∈ ns, (s.entry n).state ≠ .free)
    (hinj : ∀ n ∈ ns, ∀ m ∈ ns, s.writtenSlot w n = s.writtenSlot w m → n = m)
    (t : State) (hsame : ∀ n ∈ ns, s.SameFor t w n) :
    (∀ n, (t.forEach ns (State.writeAtEntry w)).entry n = if n ∈ ns then s.entryAfterWrite w n else t.entry n) ∧
      (t.forEach ns (State.writeAtEntry w)).queue = t.queue.arriveAll (ns.flatMap (s.writeEvents w)) := by
  induction ns generalizing t with
  | nil => exact ⟨fun _ => rfl, rfl⟩
  | cons n ns ih =>
    obtain ⟨hn, hnodup⟩ := List.nodup_cons.1 hnodup
    obtain ⟨hwritten, hafter, hevents⟩ := (hsame n (by simp)).judgement
    obtain ⟨hentry, -, -⟩ := hsame n (by simp)
    have hfree : (t.entry n).state ≠ .free := hentry ▸ hf n (by simp)
    have hne : ∀ m ∈ ns, m ≠ n := fun m hm h => hn (h ▸ hm)
    obtain ⟨hentries, hqueue⟩ := ih hnodup (fun m hm => hf m (by simp [hm]))
      (fun m hm p hp => hinj m (by simp [hm]) p (by simp [hp])) (State.writeAtEntry w n t) fun m hm =>
        (hsame m (by simp [hm])).writeAtEntry hfree (hne m hm) fun h =>
          hne m hm (hinj m (by simp [hm]) n (by simp) (h.trans hwritten))
    have hstep := writeAtEntry_eq t w n hfree
    refine ⟨fun m => (hentries m).trans ?_, hqueue.trans ?_⟩
    · rw [hstep, entry_emitAll, entry_setSlot, entry_setEntry, hafter]
      by_cases hm : m = n
      · subst hm; simp [hn]
      · simp [hm]
    · rw [hstep, hevents]
      simp [EventQueue.arriveAll, State.emitAll]

/-- The Watch Table and the Event Queue after one write (R25, R37, R39, R71). -/
theorem judgement_evaluate {s : State} (h : s.slotsWf) (w : HostWrite) :
    (∀ n, (s.evaluate w).entry n = if (s.entry n).holds w.addr = true then s.entryAfterWrite w n else s.entry n) ∧
      (s.evaluate w).queue = s.queue.arriveAll ((s.holders w.addr).flatMap (s.writeEvents w)) := by
  obtain ⟨hentries, hqueue⟩ := judgement_writeEach s w (s.holders w.addr) (holders_nodup s w.addr)
    (fun n hn => not_free_of_holds (mem_holders.1 hn))
    (fun n hn m hm hs => (slotAt_injective h (offsetOf_lt (mem_holders.1 hn)) (offsetOf_lt (mem_holders.1 hm)) hs).1)
    s fun _ _ => ⟨rfl, rfl, rfl⟩
  exact ⟨fun n => (hentries n).trans (by simp only [mem_holders]), hqueue⟩

/-- A HOST_WRITE that the port lets be taken, to a word that is neither COMMAND nor CONSUME, is its judgement (R132). -/
theorem exec_hostWrite_judged {s : State} (h : s.hostReady) {w : HostWrite} (hl : anyLane w.lanes = true)
    (hcommand : w.addr ≠ s.cb Config.cbCommand) (hconsume : w.addr ≠ s.cb Config.cbConsume) :
    exec (.hostWrite w.addr w.lanes w.data) s = .next (s.hostTaking.judged w) := by
  show Host.Outcome.next (s.takeHostWrite w) = _
  rw [takeHostWrite_of_ready h, hostWriteTaken_judged hl (by rwa [hostTaking_cb]) (by rwa [hostTaking_cb])]

/-- A judged write changes entries, slots, the queue and memory only, and memory by its store. -/
theorem judged_frame (s : State) (w : HostWrite) :
    s.judged w =
      { s with
        entries := (s.judged w).entries, slots := (s.judged w).slots, queue := (s.judged w).queue
        mem := Memory.writeLanes s.mem w.addr w.lanes w.data } := by
  simp [State.judged, State.meetTake]

/-- The Watch Table and the Event Queue after a write is judged in the state in which the port takes it. -/
theorem judgement_hostTaking {s : State} (h : s.slotsWf) (w : HostWrite) :
    (∀ n, (s.hostTaking.judged w).entry n =
      if (s.entry n).holds w.addr = true then s.entryAfterWrite w n else s.entry n) ∧
      (s.hostTaking.judged w).queue =
        (s.queue.arriveAll ((s.holders w.addr).flatMap (s.writeEvents w))).meetTake s.takeDue := by
  have hwf : State.slotsWf
      { s with port := s.hostTaking.port, mem := Memory.writeLanes s.mem w.addr w.lanes w.data } := h
  obtain ⟨hentries, hqueue⟩ := judgement_evaluate hwf w
  rw [hostTaking_eq]
  exact ⟨hentries, congrArg (EventQueue.meetTake · s.takeDue) hqueue⟩

/-- Settles O9: the events of the holders in the order in which the write visits them. -/
theorem eventsOfOneWriteInOrder : Obligations.EventsOfOneWriteInOrder := fun w _ h hslots hlane =>
  ⟨exec_hostWrite_judged h hlane, (judgement_hostTaking hslots w).2⟩

/-- Settles O10: the entries of one judged write, its frame and its store. -/
theorem writeAtEntries : Obligations.WriteAtEntries := by
  intro w s h hslots hlane
  have hframe := judged_frame s.hostTaking w
  refine ⟨exec_hostWrite_judged h hlane, ?_, (judgement_hostTaking hslots w).1, fun x => ?_⟩
  · rw [hframe]
  · rw [hframe, hostTaking_mem, readByte_writeLanes]

end Sys2Proof.Machine
end

section
/-! PROOFS. An act at several entries, one after another: a tick event, with the holdoff expiries that are part of it
(O16), and a FLUSH (O34). -/

namespace Sys2Proof.Machine

/-! ## An act at several entries -/

/-- Two states are the same for what an entry does by itself at entry n: the entry, the shadows, and the tick counter
its events are stamped with. -/
def State.SameAt (s t : State) (n : Index) : Prop :=
  t.entry n = s.entry n ∧ t.slots = s.slots ∧ t.timebase = s.timebase

/-- An act that, at each entry, writes the entry and hands events as it would do in state s, at several entries: each is
left as if it were the only one, the events arrive in the order of the list, and nothing else changes. -/
theorem forEach_sameAt {s : State} {act : Index → State → State} {after : Index → Entry} {events : Index → List Event}
    (hact : ∀ n t, s.SameAt t n → act n t = (t.setEntry n (after n)).emitAll (events n))
    (ns : List Index) (hnodup : ns.Nodup) (t : State) (hsame : ∀ n ∈ ns, s.SameAt t n) :
    (∀ n, (t.forEach ns act).entry n = if n ∈ ns then after n else t.entry n) ∧
      t.forEach ns act =
        { t with entries := (t.forEach ns act).entries, queue := t.queue.arriveAll (ns.flatMap events) } := by
  induction ns generalizing t with
  | nil => exact ⟨fun _ => rfl, rfl⟩
  | cons n ns ih =>
    obtain ⟨hn, hnodup⟩ := List.nodup_cons.1 hnodup
    have hstep := hact n t (hsame n (by simp))
    have hother : ∀ m ∈ ns, s.SameAt (act n t) m := fun m hm => by
      obtain ⟨hentry, hslots, htime⟩ := hsame m (by simp [hm])
      have hmn : m ≠ n := fun h => hn (h ▸ hm)
      rw [hstep]
      exact ⟨(entry_setEntry_ne t _ hmn).trans hentry, hslots, htime⟩
    obtain ⟨hentries, hframe⟩ := ih hnodup (act n t) hother
    refine ⟨fun m => (hentries m).trans ?_, hframe.trans ?_⟩
    · rw [hstep, entry_emitAll, entry_setEntry]
      by_cases hm : m = n
      · subst hm; simp [hn]
      · simp [hm]
    · have hqueue : (act n t).queue.arriveAll (ns.flatMap events) = t.queue.arriveAll ((n :: ns).flatMap events) := by
        rw [hstep]
        simp [EventQueue.arriveAll, State.emitAll]
      have hcons : (t.forEach (n :: ns) act).entries = ((act n t).forEach ns act).entries := rfl
      rw [hqueue, hcons]
      generalize ((act n t).forEach ns act).entries = entries
      rw [hstep]
      rfl

/-! ## A tick event -/

theorem holdoffDue_iff {e : Entry} :
    e.holdoffDue = true ↔ e.state = .armed ∧ e.holdoffState = .holding ∧ e.holdoffRemaining.toNat ≤ 1 := by
  simp [Entry.holdoffDue, Entry.holdoffRuns, and_assoc]

theorem deadlineDue_iff {e : Entry} :
    e.deadlineDue = true ↔ e.state = .armed ∧ e.deadlineState = .running ∧ e.deadlineRemaining.toNat ≤ 1 := by
  simp [Entry.deadlineDue, Entry.deadlineRuns, and_assoc]

/-- A tick event at an entry's holdoff leaves alone all that its deadline and a STALE event are made of. -/
theorem afterHoldoffTick_frame (e : Entry) : ∃ count merge holdoff remaining, e.afterHoldoffTick =
    { e with eventCount := count, merge := merge, holdoffState := holdoff, holdoffRemaining := remaining } := by
  unfold Entry.afterHoldoffTick Entry.afterHoldoffExpiry
  (repeat' split) <;> exact ⟨_, _, _, _, rfl⟩

theorem deadlineDue_afterHoldoffTick (e : Entry) : e.afterHoldoffTick.deadlineDue = e.deadlineDue := by
  obtain ⟨_, _, _, _, heq⟩ := afterHoldoffTick_frame e
  rw [heq]
  rfl

/-- A deadline expiry after the holdoff's part of the tick event creates the event it would create before it (R63). -/
theorem deadlineExpiryEvents_afterHoldoffTick {s t : State} {n : Index}
    (he : t.entry n = (s.entry n).afterHoldoffTick) (hs : t.slots = s.slots) (time : BitVec 32) :
    t.deadlineExpiryEvents n time = s.deadlineExpiryEvents n time := by
  obtain ⟨_, _, _, _, heq⟩ := afterHoldoffTick_frame (s.entry n)
  simp only [State.deadlineExpiryEvents, State.staleEvent, State.shadow, State.slot, hs, he, heq]
  rfl

/-- A tick event at entry n, the tick counter already risen: the holdoff's part and the deadline's, and the MERGED
before the STALE (R63, R144). -/
theorem tickEntry_eq {s t : State} {n : Index}
    (h : State.SameAt { s with timebase := s.timebase.ticked } t n) :
    State.tickEntry n t =
      (t.setEntry n (s.entry n).afterHoldoffTick.afterDeadlineTick).emitAll (s.tickEvents n) := by
  obtain ⟨(hentry : t.entry n = s.entry n), hslots, htime⟩ := h
  have htick : t.timebase.tick = s.timebase.tick + 1 := by rw [htime]; rfl
  have hholdoff : (if (t.entry n).holdoffDue then t.holdoffExpiryEvents n t.timebase.tick else []) =
      s.holdoffTickEvents n := by
    simp only [State.holdoffTickEvents, holdoffDue_iff, State.holdoffExpiryEvents, State.mergedEvent, hentry, htick]
  have hfirst : t.tickHoldoff n = (t.setEntry n (s.entry n).afterHoldoffTick).emitAll (s.holdoffTickEvents n) := by
    rw [tickHoldoff_eq, hholdoff, hentry]
  have hexpiry : ((t.setEntry n (s.entry n).afterHoldoffTick).emitAll (s.holdoffTickEvents n)).deadlineExpiryEvents n
      t.timebase.tick = s.deadlineExpiryEvents n (s.timebase.tick + 1) := by
    rw [htick]
    exact deadlineExpiryEvents_afterHoldoffTick (entry_setEntry_same _ _ _) hslots _
  rw [State.tickEntry, hfirst, tickDeadline_eq, timebase_emitAll, State.setEntry_timebase, hexpiry, entry_emitAll,
    entry_setEntry_same, deadlineDue_afterHoldoffTick]
  simp only [setEntry_emitAll, setEntry_setEntry, emitAll_emitAll, deadlineDue_iff]
  rfl

/-- A tick event does nothing at an entry with no timer running (R44, R56). -/
theorem tick_untimed {s : State} {n : Index} (h : n ∉ s.timed) :
    (s.entry n).afterHoldoffTick.afterDeadlineTick = s.entry n ∧ s.tickEvents n = [] := by
  simp only [State.timed, List.mem_filter, mem_entryNumbers, true_and, Entry.holdoffRuns, Entry.deadlineRuns,
    Bool.or_eq_true, Bool.and_eq_true, beq_iff_eq, not_or, not_and] at h
  obtain ⟨hholdoff, hdeadline⟩ := h
  have hfirst : (s.entry n).afterHoldoffTick = s.entry n := if_neg fun h => hholdoff h.1 h.2
  have hsecond : (s.entry n).afterDeadlineTick = s.entry n := if_neg fun h => hdeadline h.1 h.2
  have hmerged : s.holdoffTickEvents n = [] := if_neg fun h => hholdoff h.1 h.2.1
  have hstale : s.deadlineTickEvents n = [] := if_neg fun h => hdeadline h.1 h.2.1
  exact ⟨by rw [hfirst, hsecond], by rw [State.tickEvents, hmerged, hstale]; rfl⟩

/-- The events of a tick event come from the entries with a timer running. -/
theorem tickEventsOf_timed (s : State) : s.tickEventsOf s.timed = s.tickEventsOf entryNumbers := by
  have hsplit : ∀ ns : List Index, s.tickEventsOf (ns.filter (· ∈ s.timed)) = s.tickEventsOf ns := fun ns => by
    induction ns with
    | nil => rfl
    | cons n ns ih =>
      simp only [State.tickEventsOf] at ih ⊢
      by_cases hn : n ∈ s.timed
      · rw [List.filter_cons_of_pos (by simpa using hn), List.flatMap_cons, List.flatMap_cons, ih]
      · rw [List.filter_cons_of_neg (by simpa using hn), List.flatMap_cons, (tick_untimed hn).2, ih, List.nil_append]
  have htimed : s.timed = entryNumbers.filter (· ∈ s.timed) :=
    List.filter_congr fun n _ => by simp [State.timed, mem_entryNumbers]
  rw [htimed, hsplit]

theorem tickScrub_frame (s : State) : s.tickScrub = { s with scrubber := s.tickScrub.scrubber } := by
  unfold State.tickScrub State.expireScrub
  (repeat' split) <;> rfl

/-- A tick event at the Watch Table, the Event Queue and the Timebase, and what it leaves alone (R44, R56, R63,
R144). -/
theorem makeTick_eq (s : State) :
    (∀ n, s.makeTick.entry n = (s.entry n).afterHoldoffTick.afterDeadlineTick) ∧
      s.makeTick = { s with
        entries := s.makeTick.entries
        queue := (s.queue.arriveAll (s.tickEventsOf entryNumbers)).meetTake s.takeDue
        timebase := s.timebase.ticked
        scrubber := s.makeTick.scrubber } := by
  have htimed : State.timed { s with timebase := s.timebase.ticked } = s.timed := rfl
  obtain ⟨hentries, hframe⟩ := forEach_sameAt (s := { s with timebase := s.timebase.ticked }) (act := State.tickEntry)
    (fun _ _ => tickEntry_eq) s.timed (entryNumbers_nodup.filter _) { s with timebase := s.timebase.ticked }
    fun _ _ => ⟨rfl, rfl, rfl⟩
  have hevents : s.timed.flatMap s.tickEvents = s.tickEventsOf entryNumbers := tickEventsOf_timed s
  rw [hevents] at hframe
  have htick : s.makeTick = s.meetTake ((State.forEach { s with timebase := s.timebase.ticked } s.timed
      State.tickEntry).tickScrub) := rfl
  rw [tickScrub_frame, hframe] at htick
  refine ⟨fun n => ?_, ?_⟩
  · rw [htick]
    refine (hentries n).trans ?_
    split
    next => rfl
    next hn => exact (tick_untimed hn).1.symm
  · rw [htick]
    rfl

/-- The tick event of a row's own, the reset input not asserted (R143). -/
theorem tickEvent_of_released {s : State} (h : s.port.resetAsserted = false) : s.tickEvent = s.makeTick := by
  simp [State.tickEvent, h]

/-- The events of a tick event, seen from entry n: those of the entries below it, its own, and those of the entries
above it (R63). -/
theorem tickEventsOf_split (s : State) (n : Index) :
    s.tickEventsOf entryNumbers = s.tickEventsOf (entryNumbers.take n.toNat) ++ s.tickEvents n ++
      s.tickEventsOf (entryNumbers.drop (n.toNat + 1)) := by
  have hlt : n.toNat < entryNumbers.length := by simpa [entryNumbers] using n.isLt
  have hget : entryNumbers[n.toNat] = n := by simp [entryNumbers]
  have hlist : entryNumbers = entryNumbers.take n.toNat ++ n :: entryNumbers.drop (n.toNat + 1) := by
    conv_lhs => rw [← List.take_append_drop n.toNat entryNumbers, List.drop_eq_getElem_cons hlt, hget]
  conv_lhs => rw [hlist]
  simp only [State.tickEventsOf, List.flatMap_append, List.flatMap_cons, List.append_assoc]

/-- Settles O16: the tick event of `makeTick_eq`, at an entry whose holdoff it ends. -/
theorem holdoffExpiryReportsMerge : Obligations.HoldoffExpiryReportsMerge := by
  intro n s
  have hexec : exec (.holdoffExpiry n) s = .next (if (s.entry n).holdoffDue then s.tickEvent else s) := rfl
  have hexecTick : exec .tickEvent s = .next s.tickEvent := rfl
  refine ⟨fun ⟨hreset, hends⟩ => ?_, fun hnot => ?_⟩
  · have hdue := holdoffDue_iff.2 hends
    obtain ⟨hentries, hframe⟩ := makeTick_eq s
    obtain ⟨harmed, hholding, hremaining⟩ := hends
    have htime : s.makeTick.timebase.tick = s.timebase.tick + 1 := by rw [hframe]; rfl
    have hafter : (s.entry n).afterHoldoffTick = (s.entry n).afterHoldoffExpiry := by
      rw [Entry.afterHoldoffTick, if_pos ⟨harmed, hholding⟩, if_pos hremaining]
    have hevents : s.holdoffTickEvents n = s.holdoffExpiryEvents n (s.timebase.tick + 1) :=
      if_pos ⟨harmed, hholding, hremaining⟩
    rw [hexec, hexecTick, if_pos hdue, tickEvent_of_released hreset]
    refine ⟨_, rfl, rfl, htime, ?_, ?_⟩
    · rw [hentries, hafter]
    · rw [htime, hframe, tickEventsOf_split s n, State.tickEvents, hevents]
      simp only [List.append_assoc]
  · rw [hexec]
    split
    next hdue =>
      have hreset : s.port.resetAsserted = true := by
        by_contra hreset
        exact hnot ⟨by simpa using hreset, holdoffDue_iff.1 hdue⟩
      simp [State.tickEvent, hreset]
    next => rfl

/-! ## FLUSH -/

/-- A take that the first part of an act's arrivals has met is met by the whole act (R74, log 22). -/
theorem meetTake_arriveAll_meetTake (q : EventQueue) (due : Bool) (events : List Event) :
    ((q.meetTake due).arriveAll events).meetTake due = (q.arriveAll events).meetTake due := by
  induction events generalizing q with
  | nil => exact meetTake_meetTake q due
  | cons e events ih =>
    calc (((q.meetTake due).arrive e).arriveAll events).meetTake due
        = ((((q.meetTake due).arrive e).meetTake due).arriveAll events).meetTake due := (ih _).symm
      _ = (((q.arrive e).meetTake due).arriveAll events).meetTake due := by rw [meetTake_arrive_meetTake]
      _ = ((q.arrive e).arriveAll events).meetTake due := ih _

/-- The entries with a merge to flush, by what R47 asks of them. -/
theorem mergers_eq (s : State) : s.mergers =
    entryNumbers.filter fun n => decide ((s.entry n).state = .armed ∧ (s.entry n).merge.count ≠ 0) :=
  List.filter_congr fun n _ => by rw [Bool.eq_iff_iff]; simp

/-- A FLUSH request: every pending merge is reported, in ascending entry index (R47). -/
theorem flushRequest_eq (s : State) :
    (∀ n, s.flushRequest.entry n = if n ∈ s.mergers then (s.entry n).reported else s.entry n) ∧
      s.flushRequest = { s with
        entries := s.flushRequest.entries
        queue := s.queue.arriveAll (s.mergers.map fun n => s.mergedEvent n s.timebase.tick) } := by
  have hreport : ∀ n t, s.SameAt t n → t.reportMerge n =
      (t.setEntry n (s.entry n).reported).emitAll [s.mergedEvent n s.timebase.tick] := fun n t h => by
    obtain ⟨hentry, -, htime⟩ := h
    rw [reportMerge_eq, State.mergedEvent, State.mergedEvent, hentry, htime]
  have hall := forEach_sameAt hreport s.mergers (entryNumbers_nodup.filter _) s fun _ _ => ⟨rfl, rfl, rfl⟩
  rw [← List.map_eq_flatMap] at hall
  exact hall

/-- A FLUSH request in the act of its write, whose earlier events have met the take. -/
theorem meetTake_flushRequest (s t : State) :
    s.meetTake t.flushRequest = { s.meetTake t with
      entries := t.flushRequest.entries
      queue := ((s.meetTake t).queue.arriveAll
        ((s.meetTake t).mergers.map fun n => (s.meetTake t).mergedEvent n (s.meetTake t).timebase.tick)).meetTake
          s.takeDue } := by
  obtain ⟨-, hframe⟩ := flushRequest_eq t
  rw [State.meetTake_queue, meetTake_arriveAll_meetTake, hframe]
  rfl

/-- Settles O34: the request of `flushRequest_eq` after the write has been judged. -/
theorem flushReportsMerges : Obligations.FlushReportsMerges := by
  intro n tag s h hs
  have htaken := takeCommandWrite_request (op := 7) h hs (by decide) (by decide) n tag
    (request := fun t => (t.flushRequest, .done)) (fun _ => rfl) State.flushRequest_proc
  have hexec : exec (.flush n tag) s = .next (s.takeCommandWrite 7 n tag) := rfl
  dsimp only
  rw [hexec, htaken, commandJudged_eq]
  generalize s.hostTaking.evaluated (s.commandWrite 7 n tag) = t
  refine ⟨_, rfl, ?_, fun m => ?_⟩
  · rw [meetTake_flushRequest, mergers_eq, hostTaking_takeDue]
  · obtain ⟨hentries, -⟩ := flushRequest_eq t
    refine (hentries m).trans ?_
    simp only [mem_mergers]
    rfl

end Sys2Proof.Machine
end

section
/-! PROOFS. The tick event whole (O18), and the deadline expiries that are part of it (O17). -/

namespace Sys2Proof.Machine

/-! ## A row that is the tick event of its expiry -/

/-- No tick event occurs while the reset input is asserted (R143). -/
theorem tickEvent_of_reset {s : State} (h : s.port.resetAsserted = true) : s.tickEvent = s := if_pos h

theorem exec_tickEvent (s : State) : exec .tickEvent s = .next s.tickEvent := rfl

/-- A row that stands for an expiry at the next tick event has no effect where the timer does not end there, and none
while the reset input is asserted (R143, log 7). -/
theorem tickEvent_if_of_not_ends {s : State} {due : Bool} (h : ¬(s.port.resetAsserted = false ∧ due = true)) :
    (if due then s.tickEvent else s) = s := by
  split
  next hdue =>
    exact tickEvent_of_reset (by simpa [hdue] using h)
  next => rfl

theorem deadlineEnds_iff {s : State} {n : Index} :
    s.deadlineEnds n ↔ s.port.resetAsserted = false ∧ (s.entry n).deadlineDue = true := by
  rw [State.deadlineEnds, deadlineDue_iff]

theorem scrubEnds_iff {s : State} : s.scrubEnds ↔ s.port.resetAsserted = false ∧ s.scrubber.due = true := by
  simp [State.scrubEnds, Scrubber.due]

/-! ## A deadline expiry in its tick event -/

theorem afterDeadlineTick_of_due {e : Entry} (h : e.deadlineDue = true) :
    e.afterDeadlineTick = e.afterDeadlineExpiry := by
  obtain ⟨harmed, hrunning, hremaining⟩ := deadlineDue_iff.1 h
  rw [Entry.afterDeadlineTick, if_pos ⟨harmed, hrunning⟩, if_pos hremaining]

theorem deadlineTickEvents_of_due {s : State} {n : Index} (h : (s.entry n).deadlineDue = true) :
    s.deadlineTickEvents n = s.deadlineExpiryEvents n (s.timebase.tick + 1) :=
  if_pos (deadlineDue_iff.1 h)

/-- Settles O17: the tick event of `makeTick_eq`, at an entry whose deadline period it ends. -/
theorem deadlineExpiryCountsMiss : Obligations.DeadlineExpiryCountsMiss := by
  intro n s
  have hexec : exec (.deadlineExpiry n) s = .next (if (s.entry n).deadlineDue then s.tickEvent else s) := rfl
  rw [deadlineEnds_iff, hexec, exec_tickEvent]
  refine ⟨fun ⟨hreset, hdue⟩ => ?_, fun hnot => by rw [tickEvent_if_of_not_ends hnot]⟩
  obtain ⟨hentries, hframe⟩ := makeTick_eq s
  have htime : s.makeTick.timebase.tick = s.timebase.tick + 1 := by rw [hframe]; rfl
  rw [if_pos hdue, tickEvent_of_released hreset]
  refine ⟨_, rfl, rfl, htime, ?_, ?_⟩
  · rw [hentries, afterDeadlineTick_of_due (by rwa [deadlineDue_afterHoldoffTick])]
  · rw [htime, hframe, tickEventsOf_split s n, State.tickEvents, deadlineTickEvents_of_due hdue]
    simp only [List.append_assoc]

/-! ## The scrub countdown in its tick event -/

theorem tickScrub_of_not_running {s : State} (h : s.scrubber.running = false) : s.tickScrub = s := by
  simp [State.tickScrub, Scrubber.due, h]

theorem tickScrub_of_counting {s : State} (hrun : s.scrubber.running = true) (hcount : 1 < s.scrubber.countdown.toNat) :
    s.tickScrub = { s with scrubber := { s.scrubber with countdown := s.scrubber.countdown - 1 } } := by
  have hdue : s.scrubber.due = false := by simpa [Scrubber.due, hrun] using hcount
  simp [State.tickScrub, hdue, hrun]

/-- A tick event before its part at the Scrubber (R144): the Timebase, and every running timer of the Watch Table. -/
def State.tickTimers (s : State) : State :=
  State.forEach { s with timebase := s.timebase.ticked } s.timed State.tickEntry

theorem makeTick_eq_tickScrub (s : State) : s.makeTick = s.meetTake s.tickTimers.tickScrub := rfl

@[simp] theorem State.tickTimers_scrubber (s : State) : s.tickTimers.scrubber = s.scrubber :=
  forEach_scrubber _ (fun n t => t.tickEntry_scrubber n) _ _

theorem makeTick_scrubber_of_not_running {s : State} (h : s.scrubber.running = false) :
    s.makeTick.scrubber = s.scrubber := by
  rw [makeTick_eq_tickScrub, State.meetTake_scrubber, tickScrub_of_not_running (by simpa using h),
    State.tickTimers_scrubber]

theorem makeTick_scrubber_of_counting {s : State} (hrun : s.scrubber.running = true)
    (hcount : 1 < s.scrubber.countdown.toNat) :
    s.makeTick.scrubber = { s.scrubber with countdown := s.scrubber.countdown - 1 } := by
  rw [makeTick_eq_tickScrub, State.meetTake_scrubber,
    tickScrub_of_counting (by simpa using hrun) (by simpa using hcount), State.tickTimers_scrubber]

/-- Settles O18: the tick event of `makeTick_eq`, with its part at the Scrubber. -/
theorem tickEventStepsEveryTimer : Obligations.TickEventStepsEveryTimer := by
  intro s
  have hexecScrub : exec .scrubExpiry s = .next (if s.scrubber.due then s.tickEvent else s) := rfl
  rw [exec_tickEvent, hexecScrub]
  refine ⟨fun hreset => by rw [tickEvent_of_reset hreset], fun hreset => ?_⟩
  obtain ⟨hentries, hframe⟩ := makeTick_eq s
  rw [tickEvent_of_released hreset]
  refine ⟨_, rfl, hframe, hentries, makeTick_scrubber_of_not_running, makeTick_scrubber_of_counting, fun hends => ?_⟩
  rw [if_pos (scrubEnds_iff.1 hends).2]

end Sys2Proof.Machine
end

section
/-! PROOFS. The Event Queue: its lists, its depth and its losses after an arrival (O15). -/

namespace Sys2Proof.Machine

/-! ## The classes -/

theorem class_cases : ∀ c : EventClass, c = 0 ∨ c = 1 ∨ c = 2 ∨ c = 3 := by decide

/-- A search in an order of the classes finds the class before which it finds none. -/
theorem find?_of_none_before {r : EventClass → EventClass → Prop} {l : List EventClass} (hl : l.Pairwise r)
    {p : EventClass → Bool} {z : EventClass} (hz : z ∈ l) (hp : p z = true) (hnone : ∀ c, r c z → p c = false) :
    l.find? p = some z := by
  induction l with
  | nil => cases hz
  | cons x xs ih =>
    obtain ⟨hx, hxs⟩ := List.pairwise_cons.1 hl
    rcases List.mem_cons.1 hz with rfl | hz
    · exact List.find?_cons_of_pos hp
    · rw [List.find?_cons_of_neg (by simp [hnone x (hx z hz)])]
      exact ih hxs hz

theorem mostUrgent_eq {q : EventQueue} {z : EventClass} (hz : q.list z ≠ [])
    (hnone : ∀ c : EventClass, c.toNat < z.toNat → q.list c = []) : q.mostUrgent = some z :=
  find?_of_none_before (r := fun c z => c.toNat < z.toNat) (by decide) (mem_classes z) (by simpa using hz)
    fun c hc => by simp [hnone c hc]

theorem leastUrgent_eq {q : EventQueue} {z : EventClass} (hz : q.list z ≠ [])
    (hnone : ∀ c : EventClass, z.toNat < c.toNat → q.list c = []) : q.leastUrgent = some z :=
  find?_of_none_before (r := fun c z => z.toNat < c.toNat) (by decide) (List.mem_reverse.2 (mem_classes z))
    (by simpa using hz) fun c hc => by simp [hnone c hc]

theorem list_ne_nil_of_leastUrgent {q : EventQueue} {z : EventClass} (h : q.leastUrgent = some z) : q.list z ≠ [] := by
  simpa using List.find?_some h

/-! ## One list, one count -/

theorem class_toNat_ne {c d : EventClass} (h : c ≠ d) : d.toNat ≠ c.toNat := fun hn => h (BitVec.eq_of_toNat_eq hn.symm)

theorem list_setList (q : EventQueue) (z c : EventClass) (l : List Event) :
    (q.setList z l).list c = if c = z then l else q.list c := by
  by_cases h : c = z
  · subst h; simp [EventQueue.list, EventQueue.setList]
  · simp [EventQueue.list, EventQueue.setList, h, Vector.getElem_set_ne _ _ (class_toNat_ne h)]

theorem list_append (q : EventQueue) (e : Event) (c : EventClass) :
    (q.append e).list c = if c = e.cls then q.list c ++ [e] else q.list c := by
  rw [EventQueue.append, list_setList]
  split
  next h => rw [h]
  next => rfl

theorem lostOf_countLost (q : EventQueue) (z c : EventClass) :
    (q.countLost z).lostOf c = if c = z then q.lostOf c + 1 else q.lostOf c := by
  by_cases h : c = z
  · subst h; simp [EventQueue.lostOf, EventQueue.countLost]
  · simp [EventQueue.lostOf, EventQueue.countLost, h, Vector.getElem_set_ne _ _ (class_toNat_ne h)]

/-- The saturating count as a number (R76). -/
theorem saturatingSucc_toNat (x : BitVec 16) : (saturatingSucc x).toNat = min 65535 (x.toNat + 1) := by
  have := x.isLt
  rw [saturatingSucc_eq]
  split <;> bv_omega

theorem unreportedOf_countLost_toNat (q : EventQueue) (z c : EventClass) :
    ((q.countLost z).unreportedOf c).toNat =
      if c = z then min 65535 ((q.unreportedOf c).toNat + 1) else (q.unreportedOf c).toNat := by
  by_cases h : c = z
  · subst h; rw [unreportedOf_countLost, saturatingSucc_toNat, if_pos rfl]
  · simp [EventQueue.unreportedOf, EventQueue.countLost, h, Vector.getElem_set_ne _ _ (class_toNat_ne h)]

/-! ## The depth and the sum of the lost totals -/

theorem depth_eq (q : EventQueue) :
    q.depth = (q.list 0).length + (q.list 1).length + (q.list 2).length + (q.list 3).length := by
  simp [EventQueue.depth, classes]
  omega

/-- A list's new length changes the depth by as much. -/
theorem depth_setList (q : EventQueue) (z : EventClass) (l : List Event) :
    (q.setList z l).depth + (q.list z).length = q.depth + l.length := by
  simp only [depth_eq, list_setList]
  rcases class_cases z with rfl | rfl | rfl | rfl <;> simp <;> omega

@[simp] theorem depth_countLost (q : EventQueue) (z : EventClass) : (q.countLost z).depth = q.depth := rfl

theorem depth_append (q : EventQueue) (e : Event) : (q.append e).depth = q.depth + 1 := by
  have h := depth_setList q e.cls (q.list e.cls ++ [e])
  rw [List.length_append, List.length_singleton] at h
  rw [EventQueue.append]
  omega

/-- A list that loses an event lowers the depth by 1. -/
theorem depth_setList_shorter (q : EventQueue) {z : EventClass} {l : List Event} (h : l.length + 1 = (q.list z).length) :
    (q.setList z l).depth + 1 = q.depth := by
  have := depth_setList q z l
  omega

/-- The events lost, of all classes (R79). -/
def EventQueue.lostSum (q : EventQueue) : BitVec 32 := q.lostOf 0 + q.lostOf 1 + q.lostOf 2 + q.lostOf 3

theorem lostSum_countLost (q : EventQueue) (z : EventClass) : (q.countLost z).lostSum = q.lostSum + 1 := by
  simp only [EventQueue.lostSum, lostOf_countLost]
  rcases class_cases z with rfl | rfl | rfl | rfl <;> simp <;> bv_omega

/-! ## Arrivals -/

/-- The queue in which an arrival has been counted, and not yet appended or lost (R78). -/
def EventQueue.counted (q : EventQueue) : EventQueue := { q with created := q.created + 1 }

/-- An arrival with room joins its class's list (R70). -/
theorem arrive_of_room {q : EventQueue} (h : q.depth < 32) (e : Event) : q.arrive e = q.counted.append e := if_pos h

theorem arrive_of_full {q : EventQueue} (h : ¬q.depth < 32) (e : Event) : q.arrive e = q.counted.arriveFull e :=
  if_neg h

/-- An arrival at depth 32 displaces the youngest event of the least urgent class present, where that class is less
urgent (R75). -/
theorem arrive_displaces {q : EventQueue} (h : ¬q.depth < 32) {e : Event} {z : EventClass} (hz : q.leastUrgent = some z)
    (hlt : e.cls.toNat < z.toNat) :
    q.arrive e = ((q.counted.setList z (q.list z).dropLast).countLost z).append e := by
  have hleast : q.counted.leastUrgent = some z := hz
  rw [arrive_of_full h, EventQueue.arriveFull, hleast]
  exact if_pos hlt

/-- An arrival at depth 32 is lost where no class present is less urgent (R75). -/
theorem arrive_lost {q : EventQueue} (h : ¬q.depth < 32) {e : Event}
    (hz : ∀ z, q.leastUrgent = some z → ¬e.cls.toNat < z.toNat) : q.arrive e = q.counted.countLost e.cls := by
  have hleast : q.counted.leastUrgent = q.leastUrgent := rfl
  rw [arrive_of_full h, EventQueue.arriveFull, hleast]
  split
  next z hsome => exact if_neg (hz z hsome)
  next => rfl

/-- Everything an arrival can do to the depth and to the losses (R70, R75, R76). -/
theorem arrive_depth (q : EventQueue) (e : Event) :
    (q.depth < 32 ∧ (q.arrive e).depth = q.depth + 1 ∧ (q.arrive e).lostSum = q.lostSum ∧
      (q.arrive e).hasUnreported = q.hasUnreported) ∨
    (32 ≤ q.depth ∧ (q.arrive e).depth = q.depth ∧ (q.arrive e).lostSum = q.lostSum + 1 ∧
      (q.arrive e).hasUnreported = true) := by
  by_cases hroom : q.depth < 32
  · refine .inl ⟨hroom, ?_⟩
    rw [arrive_of_room hroom]
    exact ⟨depth_append _ e, rfl, rfl⟩
  refine .inr ⟨Nat.le_of_not_lt hroom, ?_⟩
  by_cases hz : ∃ z, q.leastUrgent = some z ∧ e.cls.toNat < z.toNat
  · obtain ⟨z, hz, hlt⟩ := hz
    have hpos := List.length_pos_iff.2 (list_ne_nil_of_leastUrgent hz)
    have hshorter := depth_setList_shorter q.counted (z := z) (l := (q.list z).dropLast)
      (by rw [List.length_dropLast]; exact Nat.sub_add_cancel hpos)
    rw [arrive_displaces hroom hz hlt]
    refine ⟨?_, lostSum_countLost _ z, hasUnreported_countLost _ z⟩
    rw [depth_append, depth_countLost]
    exact hshorter
  · rw [arrive_lost hroom fun z h hlt => hz ⟨z, h, hlt⟩]
    exact ⟨rfl, lostSum_countLost _ _, hasUnreported_countLost _ _⟩

/-- Settles O15: an arrival with room, one that displaces an event, and one that is lost. -/
theorem arrivalAtTheQueue : Obligations.ArrivalAtTheQueue := by
  intro q e
  obtain ⟨hcreated, hjournaled, -⟩ := q.arrive_totals e
  refine ⟨hcreated, hjournaled, fun hroom => ?_, fun hfull z hz hnone => ?_⟩
  · rw [arrive_of_room hroom]
    exact ⟨depth_append _ e, list_append _ e, rfl, rfl⟩
  have hleast := leastUrgent_eq hz hnone
  have hdepth : (q.arrive e).depth = 32 := by
    rcases arrive_depth q e with ⟨hroom, -⟩ | ⟨-, h, -⟩ <;> omega
  have hroom : ¬q.depth < 32 := by omega
  refine ⟨hdepth, ?_⟩
  by_cases hlt : e.cls.toNat < z.toNat
  · have hne : e.cls ≠ z := fun h => by simp [h] at hlt
    simp only [if_pos hlt]
    rw [arrive_displaces hroom hleast hlt]
    refine ⟨fun c => ?_, lostOf_countLost _ z, unreportedOf_countLost_toNat _ z⟩
    have hdropped : ((q.counted.setList z (q.list z).dropLast).countLost z).list c =
        if c = z then (q.list z).dropLast else q.list c := list_setList _ z c _
    rw [list_append, hdropped]
    by_cases hc : c = z
    · rw [hc, if_pos rfl, if_neg (Ne.symm hne), if_pos rfl]
    · simp only [if_neg hc]
  · simp only [if_neg hlt]
    rw [arrive_lost hroom fun y hy => by rw [hleast] at hy; cases hy; exact hlt]
    exact ⟨fun _ => rfl, lostOf_countLost _ _, unreportedOf_countLost_toNat _ _⟩

end Sys2Proof.Machine
end

section
/-! PROOFS. What an act can do to the Journal Writer and the Event Queue. -/

namespace Sys2Proof.Machine

/-! ## Events handed to the queue -/

/-- From state s to state t events arrive at the queue, one after another, and the Journal Writer is left alone. -/
structure State.Hands (s t : State) : Prop where
  journal : t.journal = s.journal
  queue : ∃ events, t.queue = s.queue.arriveAll events

/-- An operation that leaves the Journal Writer and the queue alone hands no event. -/
theorem hands_of_eq {s t : State} (hj : t.journal = s.journal) (hq : t.queue = s.queue) : s.Hands t := ⟨hj, [], hq⟩

theorem State.Hands.refl (s : State) : s.Hands s := hands_of_eq rfl rfl

theorem arriveAll_append (q : EventQueue) (es fs : List Event) :
    q.arriveAll (es ++ fs) = (q.arriveAll es).arriveAll fs := List.foldl_append

theorem State.Hands.trans {s t u : State} (h : s.Hands t) (k : t.Hands u) : s.Hands u := by
  obtain ⟨es, hes⟩ := h.queue
  obtain ⟨fs, hfs⟩ := k.queue
  exact ⟨k.journal.trans h.journal, es ++ fs, by rw [hfs, hes, arriveAll_append]⟩

theorem emitAll_hands (s : State) (es : List Event) : s.Hands (s.emitAll es) := ⟨rfl, es, rfl⟩

theorem emit_hands (s : State) (e : Event) : s.Hands (s.emit e) := emitAll_hands s [e]

/-- A write of one entry, and the events that go with it. -/
theorem setEntry_emitAll_hands (s : State) (n : Index) (e : Entry) (es : List Event) :
    s.Hands ((s.setEntry n e).emitAll es) := ⟨rfl, es, rfl⟩

theorem writeAtEntry_hands (s : State) (w : HostWrite) (n : Index) : s.Hands (State.writeAtEntry w n s) := by
  by_cases hf : (s.entry n).state = .free
  · simpa [State.writeAtEntry, hf] using State.Hands.refl s
  · rw [writeAtEntry_eq s w n hf]
    exact ⟨rfl, _, rfl⟩

theorem evaluate_hands (s : State) (w : HostWrite) : s.Hands (s.evaluate w) :=
  forEach_induct _ (.refl s) fun n _ t h => h.trans (writeAtEntry_hands t w n)

theorem flushRequest_hands (s : State) : s.Hands s.flushRequest := by
  obtain ⟨-, hframe⟩ := flushRequest_eq s
  exact ⟨State.flushRequest_journal s, _, congrArg State.queue hframe⟩

theorem freeEntry_hands (s : State) (n : Index) : s.Hands (s.freeEntry n) := by
  rw [freeEntry_eq]
  exact hands_of_eq rfl rfl

theorem disarmRequest_hands (s : State) (n : Index) : s.Hands (s.disarmRequest n).1 := by
  have hfreed : s.Hands ((s.flushMerge n).freeEntry n) := by
    rw [flushMerge_eq]
    exact (setEntry_emitAll_hands s n _ _).trans (freeEntry_hands _ n)
  cases hst : (s.entry n).state <;> simp only [State.disarmRequest, hst]
  · exact .refl s
  · exact .refl s
  · exact hfreed
  · exact hfreed

theorem suspendRequest_hands (s : State) (n : Index) : s.Hands (s.suspendRequest n).1 := by
  cases hst : (s.entry n).state
  case armed =>
    rw [suspendRequest_eq_of_armed hst]
    exact setEntry_emitAll_hands s n _ _
  all_goals simpa only [State.suspendRequest, hst] using .refl s

theorem resumeRequest_hands (s : State) (n : Index) : s.Hands (s.resumeRequest n).1 := by
  cases hst : (s.entry n).state
  case suspended =>
    rw [resumeRequest_eq_of_suspended hst]
    exact hands_of_eq rfl rfl
  all_goals simpa only [State.resumeRequest, hst] using .refl s

theorem retuneRequest_hands (s : State) (n : Index) (d : Descriptor) : s.Hands (s.retuneRequest n d).1 := by
  cases hc : s.retuneCheck n d
  case none =>
    rw [retuneRequest_eq_of_check hc]
    exact setEntry_emitAll_hands s n _ _
  case some => simpa only [State.retuneRequest, hc] using .refl s

theorem takeCommand_hands (s : State) (c : CommandSlot) : s.Hands (s.takeCommand c) := by
  have hpublish : ∀ (t : State) r l, s.Hands t → s.Hands (t.beginPublishing c r l) := fun t r l h =>
    h.trans (hands_of_eq rfl rfl)
  unfold State.takeCommand
  split
  case h_2 => exact hpublish _ _ _ (disarmRequest_hands s c.operand)
  case h_3 => exact hpublish _ _ _ (suspendRequest_hands s c.operand)
  case h_4 => exact hpublish _ _ _ (resumeRequest_hands s c.operand)
  case h_7 => exact hpublish _ _ _ (flushRequest_hands s)
  all_goals exact hands_of_eq rfl rfl

/-! ## What the Journal Writer is told -/

/-- What an act that is not the Journal Writer's own can do to it: nothing, a consume write (R95, R96), an applied one
(R94, R98), an install request handed (R122), or one taken while no record is in flight (R101). -/
inductive Journal.Told (j : Journal) : Journal → Prop
  | same : j.Told j
  | image (v : Word) : j.Told { j with consumeImage := v }
  | consume (v : Word) (hring : j.length ≠ 0) (hlegal : j.consumeLegal v.toNat = true) :
    j.Told { Journal.applyConsume { j with consumeImage := v } v.toNat with
      attn := (Journal.applyConsume { j with consumeImage := v } v.toNat).attnLevel }
  | request (r : InstallRequest) (hring : legalRing r.base r.length r.threshold r.format) (ht : r.taken = false) :
    j.Told { j with install := some r }
  | taken (hrecord : j.record = none) : j.Told j.takeRequest

theorem Journal.Told.record {j j' : Journal} (h : j.Told j') : j'.record = j.record := by
  cases h <;> rfl

/-- An act tells the Journal Writer something, and events arrive at the queue. -/
structure State.Tells (s t : State) : Prop where
  journal : s.journal.Told t.journal
  queue : ∃ events, t.queue = s.queue.arriveAll events

theorem tells_of_hands {s t : State} (h : s.Hands t) : s.Tells t := ⟨by rw [h.journal]; exact .same, h.queue⟩

theorem State.Tells.trans {s t u : State} (h : s.Tells t) (k : t.Hands u) : s.Tells u := by
  obtain ⟨es, hes⟩ := h.queue
  obtain ⟨fs, hfs⟩ := k.queue
  exact ⟨by rw [k.journal]; exact h.journal, es ++ fs, by rw [hfs, hes, arriveAll_append]⟩

theorem takeConsume_tells (s : State) (lanes : Lanes) (data : Word) : s.Tells (s.takeConsume lanes data) := by
  unfold State.takeConsume
  dsimp only
  split
  next => exact ⟨.image _, [], rfl⟩
  next hc =>
    simp only [State.consumeRejected, Bool.or_eq_true, decide_eq_true_eq, Bool.and_eq_true, bne_iff_ne, Bool.not_eq_true',
      Bool.and_eq_false_iff, not_or, not_and, Bool.not_eq_false] at hc
    obtain ⟨hring, hlegal⟩ := hc
    exact ⟨.consume _ hring (hlegal hring).2, [], rfl⟩

theorem consumeAndEvaluate_tells (s : State) (w : HostWrite) : s.Tells (s.consumeAndEvaluate w) := by
  have h1 := takeConsume_tells s w.lanes w.data
  have hjudged := h1.trans (evaluate_hands _ w)
  unfold State.consumeAndEvaluate
  dsimp only
  split
  · split
    · exact hjudged.trans (emit_hands _ _)
    · refine State.Tells.trans (t := if _ then _ else _) ?_ (hands_of_eq rfl rfl)
      split
      · exact (h1.trans (emit_hands _ _)).trans (evaluate_hands _ w)
      · exact hjudged.trans (emit_hands _ _)
  · exact hjudged

/-- The ring of a JOURNAL whose checks pass is legal (R84, R122). -/
theorem legalRing_of_journalCheck {s : State} {ws : List Word} (h : s.journalCheck ws = none) :
    legalRing (installRequestOf ws).base (installRequestOf ws).length (installRequestOf ws).threshold
      (installRequestOf ws).format := by
  unfold State.journalCheck at h
  dsimp only at h
  have hthreshold : (installRequestOf ws).length = 0 → (installRequestOf ws).threshold = 0 := fun h0 => if_pos h0
  generalize installRequestOf ws = r at h hthreshold
  by_cases h0 : r.length = 0
  · exact .inl ⟨h0, hthreshold h0⟩
  refine .inr ?_
  split at h
  · cases h
  split at h
  · cases h
  split at h
  · cases h
  split at h
  · cases h
  omega

/-! ## What an act can do -/

/-- What an act can do to the Journal Writer and the Event Queue. -/
inductive State.Moves (s t : State) : Prop
  /-- Events arrive, and meet a take that was due when the act began (R74; log 22). -/
  | handed (hj : s.journal.Told t.journal) (hq : ∃ events, t.queue = (s.queue.arriveAll events).meetTake s.takeDue)
  | reset (hj : t.journal = .reset) (hq : t.queue = .reset)
  | begins (content : RecordContent) (hmay : s.mayBegin = true) (hnext : s.nextContent = some (content, t.queue))
    (hj : t.journal = { s.journal with record := some ⟨content, s.journal.produce, 0⟩ })
  | word (r : RecordInFlight) (hr : s.journal.record = some r) (hw : r.wordsTaken < recordWords s.journal.format)
    (hj : t.journal = { s.journal with record := some { r with wordsTaken := r.wordsTaken + 1 } })
    (hq : t.queue = s.queue)
  | published (r : RecordInFlight) (hr : s.journal.record = some r)
    (hj : t.journal = { s.journal.published r.content with attn := (s.journal.published r.content).attnLevel })
    (hq : t.queue = s.queue.countJournaled r.content)
  | installed (r : InstallRequest) (hrecord : s.journal.record = none) (hr : s.journal.install = some r)
    (hj : t.journal = { s.journal.installed r with attn := (s.journal.installed r).attnLevel })
    (hq : ∃ events, t.queue = { s.queue.arriveAll events with takeMet := false })

/-- An act whose events meet a take. -/
theorem moves_meetTake {s u : State} (h : s.Tells u) : s.Moves (s.meetTake u) := by
  obtain ⟨events, hq⟩ := h.queue
  exact .handed h.journal ⟨events, by rw [State.meetTake_queue, hq]⟩

/-- An act that leaves the queue alone. -/
theorem moves_of_queue {s t : State} (hj : s.journal.Told t.journal) (hq : t.queue = s.queue) : s.Moves t :=
  .handed hj ⟨[], by rw [hq]; exact (meetTake_takeDue s).symm⟩

theorem moves_of_eq {s t : State} (hj : t.journal = s.journal) (hq : t.queue = s.queue) : s.Moves t :=
  moves_of_queue (by rw [hj]; exact .same) hq

theorem examine_moves {s u : State} (h : s.Hands u) (lanes : Lanes) (data : Word) :
    s.Moves (s.meetTake (u.examine lanes data)) := by
  unfold State.examine
  split
  · exact moves_meetTake (tells_of_hands h)
  · split
    · exact moves_meetTake (tells_of_hands (h.trans (hands_of_eq rfl rfl)))
    · split
      · exact moves_meetTake (tells_of_hands h)
      · split
        · exact .reset rfl (reset_queue_meetTake _)
        · split
          · exact moves_meetTake (tells_of_hands (h.trans (takeCommand_hands u _)))
          · exact moves_meetTake (tells_of_hands (h.trans (hands_of_eq rfl rfl)))

theorem hostWriteTaken_moves (s : State) (w : HostWrite) : s.Moves (s.hostWriteTaken w) := by
  have hmem : s.Hands { s with mem := Memory.writeLanes s.mem w.addr w.lanes w.data } := hands_of_eq rfl rfl
  have hjudged := hmem.trans (evaluate_hands _ w)
  unfold State.hostWriteTaken State.announceWrite
  dsimp only
  split
  · exact moves_meetTake (tells_of_hands hmem)
  · split
    · obtain ⟨hj, hq⟩ := consumeAndEvaluate_tells { s with mem := Memory.writeLanes s.mem w.addr w.lanes w.data } w
      exact moves_meetTake ⟨hj, hq⟩
    · split
      · exact examine_moves hjudged _ _
      · exact moves_meetTake (tells_of_hands hjudged)

theorem finishReading_tells (s : State) (c : CommandSlot) (ws : List Word) : s.Tells (s.finishReading c ws) := by
  unfold State.finishReading
  split
  · unfold State.finishLoad
    split
    · exact tells_of_hands (hands_of_eq rfl rfl)
    · rw [loadEntry_eq]
      exact tells_of_hands (hands_of_eq rfl rfl)
  · exact tells_of_hands ((retuneRequest_hands s c.operand (descriptorOf ws)).trans (hands_of_eq rfl rfl))
  · exact tells_of_hands ((emit_hands s _).trans (hands_of_eq rfl rfl))
  · unfold State.finishJournal
    split
    next => exact tells_of_hands (hands_of_eq rfl rfl)
    next hc => exact ⟨.request _ (legalRing_of_journalCheck hc) rfl, [], rfl⟩
  · unfold State.finishTimebase
    split <;> exact tells_of_hands (hands_of_eq rfl rfl)

theorem commandReadTaken_moves (s : State) (c : CommandSlot) : s.Moves (s.commandReadTaken c) := by
  unfold State.commandReadTaken
  dsimp only
  split
  · exact moves_of_eq rfl rfl
  · obtain ⟨hj, hq⟩ := finishReading_tells { s with proc := { s.proc with
      claim := none, readWords := s.proc.readWords ++ [s.readWord (s.cb (readOffset c s.proc.readWords.length))] } } c
      (s.proc.readWords ++ [s.readWord (s.cb (readOffset c s.proc.readWords.length))])
    exact moves_meetTake ⟨hj, hq⟩

theorem primeReadTaken_moves (s : State) (n : Index) : s.Moves (s.primeReadTaken n) := by
  unfold State.primeReadTaken
  dsimp only
  split <;> exact moves_of_eq rfl rfl

theorem begin_moves {s : State} (h : s.mayBegin = true) : s.Moves s.begin := by
  unfold State.begin
  split
  next content q hnext => exact .begins content h hnext rfl
  next => exact moves_of_eq rfl rfl

theorem takeInstallRequest_moves (s : State) : s.Moves s.takeInstallRequest := by
  unfold State.takeInstallRequest
  split
  · split
    next hc =>
      have hrecord : s.journal.record = none := by simpa using (Bool.and_eq_true_iff.1 hc).2
      exact moves_of_queue (.taken hrecord) rfl
    next => exact moves_of_eq rfl rfl
  · exact moves_of_eq rfl rfl

theorem install_moves {s : State} {r : InstallRequest} (hrecord : s.journal.record = none)
    (hr : s.journal.install = some r) : s.Moves (s.install r) := by
  have hinstalled : ∀ t : State, s.Hands t → s.Moves
      ((State.setJournal { t with queue := { t.queue with takeMet := false } } (t.journal.installed r)).publish .done) :=
    fun t ht => by
      obtain ⟨events, hq⟩ := ht.queue
      refine .installed r hrecord hr ?_ ⟨events, ?_⟩
      · rw [← ht.journal]; rfl
      · rw [← hq]; rfl
  have hword : s.Hands (s.writeWord (s.cb Config.cbProduce) 0) := hands_of_eq rfl rfl
  unfold State.install
  dsimp only
  split
  · exact hinstalled _ hword
  · exact hinstalled _ (hword.trans (emit_hands _ _))

theorem scrubReadTaken_moves (s : State) (c : ScrubClaim) : s.Moves (s.scrubReadTaken c) := by
  unfold State.scrubReadTaken
  dsimp only
  split
  · exact moves_of_eq rfl rfl
  · exact moves_meetTake (tells_of_hands ⟨rfl, [_], rfl⟩)

theorem makeTick_moves (s : State) : s.Moves s.makeTick := by
  obtain ⟨-, hframe⟩ := makeTick_eq s
  have hj : s.makeTick.journal = s.journal := by rw [hframe]
  exact .handed (by rw [hj]; exact .same) ⟨_, congrArg State.queue hframe⟩

/-- What every act does to the Journal Writer and the Event Queue. -/
theorem act_moves {s t : State} (h : Act s t) : s.Moves t := by
  cases h with
  | pinReset => exact .reset rfl rfl
  | release => exact .reset rfl rfl
  | hostWrite w => exact hostWriteTaken_moves s w
  | commandRead c => exact commandReadTaken_moves s c
  | primeRead n => exact primeReadTaken_moves s n
  | beginRecord h => exact begin_moves h
  | recordWord r hr hw => exact .word r hr hw rfl rfl
  | publication r hr => exact .published r hr rfl rfl
  | installRequest => exact takeInstallRequest_moves s
  | installation r hrecord hr => exact install_moves hrecord hr
  | tick => exact makeTick_moves s
  | scrubRead c => exact scrubReadTaken_moves s c
  | grant => exact moves_of_eq (State.grant_journal s) (State.grant_queue s)
  | dequeue | store | readOut | present | freePort | snapshotWord | completion | refusal | startup | phase =>
    exact moves_of_eq rfl rfl

end Sys2Proof.Machine
end

section
/-! PROOFS. Every step keeps the balance of the Event Queue's totals (O56). -/

namespace Sys2Proof.Machine

/-! ## The events that the totals do not account for -/

/-- The events created that are neither journaled, queued nor lost: by the balance, the one in flight (R79). -/
def EventQueue.unaccounted (q : EventQueue) : BitVec 32 :=
  q.created - (q.journaled + BitVec.ofNat 32 q.depth + q.lostSum)

theorem balanced_iff (s : State) : s.balanced ↔ s.queue.unaccounted = BitVec.ofNat 32 s.journal.eventsInFlight := by
  simp only [State.balanced, EventQueue.unaccounted, EventQueue.lostSum]
  constructor <;> intro h <;> bv_omega

/-- An arrival is queued, or it or the event it displaces is lost (R70, R75). -/
theorem unaccounted_arrive (q : EventQueue) (e : Event) : (q.arrive e).unaccounted = q.unaccounted := by
  obtain ⟨hcreated, hjournaled, -⟩ := q.arrive_totals e
  simp only [EventQueue.unaccounted, hcreated, hjournaled]
  rcases arrive_depth q e with ⟨-, hdepth, hlost, -⟩ | ⟨-, hdepth, hlost, -⟩ <;> rw [hdepth, hlost] <;> bv_omega

theorem unaccounted_arriveAll (q : EventQueue) (events : List Event) :
    (q.arriveAll events).unaccounted = q.unaccounted := by
  induction events generalizing q with
  | nil => rfl
  | cons e events ih => exact (ih (q.arrive e)).trans (unaccounted_arrive q e)

/-- What a record begins with (R80, R87): the unreported counts, or the oldest event of the most urgent class. -/
theorem nextContent_cases {s : State} {content : RecordContent} {q : EventQueue}
    (h : s.nextContent = some (content, q)) :
    (s.queue.takeMet = false ∧ content = .loss s.queue.unreported s.timebase.tick ∧
      q = { s.queue with unreported := Vector.replicate 4 0 }) ∨
    ∃ c e rest, s.queue.list c = e :: rest ∧ content = .event e ∧
      q = { s.queue.setList c rest with takeMet := false } := by
  unfold State.nextContent at h
  split at h
  next hloss =>
    obtain ⟨-, hmet⟩ := Bool.and_eq_true_iff.1 hloss
    cases h
    exact .inl ⟨by simpa using hmet, rfl, rfl⟩
  next =>
    unfold EventQueue.take at h
    cases hc : s.queue.mostUrgent with
    | none => simp only [hc] at h; cases h
    | some c =>
      cases hl : s.queue.list c with
      | nil => simp only [hc, hl] at h; cases h
      | cons e rest =>
        simp only [hc, hl] at h
        cases h
        exact .inr ⟨c, e, rest, hl, rfl, rfl⟩

/-- An event handed to the writer leaves the queue (R72, R73). -/
theorem unaccounted_taken (q : EventQueue) {c : EventClass} {e : Event} {rest : List Event} (h : q.list c = e :: rest) :
    EventQueue.unaccounted { q.setList c rest with takeMet := false } = q.unaccounted + 1 := by
  have hdepth : (q.setList c rest).depth + 1 = q.depth := depth_setList_shorter q (by rw [h]; rfl)
  have htaken : EventQueue.unaccounted { q.setList c rest with takeMet := false } =
      q.created - (q.journaled + BitVec.ofNat 32 (q.setList c rest).depth + q.lostSum) := rfl
  rw [htaken, EventQueue.unaccounted, ← hdepth]
  bv_omega

theorem record_none_of_mayBegin {s : State} (h : s.mayBegin = true) : s.journal.record = none := by
  simp only [State.mayBegin, Journal.standsReady, Journal.state, Bool.and_eq_true, beq_iff_eq] at h
  obtain ⟨⟨hready, -⟩, -⟩ := h
  by_contra hr
  have hsome : s.journal.record.isSome = true := by simpa [Option.isSome_iff_ne_none] using hr
  simp only [hsome, if_true] at hready
  split at hready <;> cases hready

theorem eventsInFlight_of_record {j j' : Journal} (h : j'.record = j.record) : j'.eventsInFlight = j.eventsInFlight := by
  simp only [Journal.eventsInFlight, h]

theorem balanced_of_reset {t : State} (hj : t.journal = .reset) (hq : t.queue = .reset) : t.balanced := by
  have h := reset_balanced
  simp only [State.balanced] at h ⊢
  rw [hj, hq]
  exact h

/-- Every act keeps the balance (R79). -/
theorem moves_balanced {s t : State} (h : s.Moves t) (hs : s.balanced) : t.balanced := by
  rw [balanced_iff] at hs
  cases h with
  | reset hj hq => exact balanced_of_reset hj hq
  | handed hj hq =>
    obtain ⟨events, hq⟩ := hq
    have hmeet : t.queue.unaccounted = (s.queue.arriveAll events).unaccounted := by rw [hq]; rfl
    rw [balanced_iff, hmeet, unaccounted_arriveAll, eventsInFlight_of_record hj.record, hs]
  | begins content hmay hnext hj =>
    have hidle : s.journal.eventsInFlight = 0 := by
      simp only [Journal.eventsInFlight, record_none_of_mayBegin hmay]
    rw [hidle] at hs
    rw [balanced_iff, hj]
    rcases nextContent_cases hnext with ⟨-, rfl, hq⟩ | ⟨c, e, rest, hlist, rfl, hq⟩
    · rw [hq]
      exact hs
    · rw [hq, unaccounted_taken s.queue hlist, hs]
      rfl
  | word r hr hw hj hq =>
    have hsame : t.journal.eventsInFlight = s.journal.eventsInFlight := by
      simp only [Journal.eventsInFlight, hj, hr]
    rw [balanced_iff, hq, hsame, hs]
  | published r hr hj hq =>
    have hnone : t.journal.eventsInFlight = 0 := by rw [hj]; rfl
    rw [balanced_iff, hq, hnone]
    cases hcontent : r.content with
    | loss counts time =>
      have hflight : s.journal.eventsInFlight = 0 := by simp only [Journal.eventsInFlight, hr, hcontent]
      rw [hflight] at hs
      exact hs
    | event e =>
      have hflight : s.journal.eventsInFlight = 1 := by simp only [Journal.eventsInFlight, hr, hcontent]
      have hcount : (s.queue.countJournaled (.event e)).unaccounted = s.queue.unaccounted - 1 := by
        show s.queue.created - (s.queue.journaled + 1 + BitVec.ofNat 32 s.queue.depth + s.queue.lostSum) =
          s.queue.created - (s.queue.journaled + BitVec.ofNat 32 s.queue.depth + s.queue.lostSum) - 1
        bv_omega
      rw [hcount, hs, hflight]
      rfl
  | installed r hrecord hr hj hq =>
    obtain ⟨events, hq⟩ := hq
    have hrecords : t.journal.record = s.journal.record := by rw [hj]; rfl
    have hmet : t.queue.unaccounted = (s.queue.arriveAll events).unaccounted := by rw [hq]; rfl
    rw [balanced_iff, hmet, unaccounted_arriveAll, eventsInFlight_of_record hrecords, hs]

/-- Both resets set every term of the balance to 0. -/
theorem zero_of_blocksReset {t : State} (h : t.blocksReset) :
    (t.queue.created = 0 ∧ t.queue.journaled = 0 ∧ t.queue.depth = 0 ∧ t.journal.eventsInFlight = 0 ∧
      ∀ c, t.queue.lostOf c = 0) ∧ t.balanced := by
  obtain ⟨-, -, -, hlists, hcreated, hjournaled, -, hjournal, -⟩ := h
  have hdepth : t.queue.depth = 0 := by simp [depth_eq, hlists]
  have hlost : ∀ c, t.queue.lostOf c = 0 := fun c => (hlists c).2.1
  have hflight : t.journal.eventsInFlight = 0 := by rw [hjournal]; rfl
  refine ⟨⟨hcreated, hjournaled, hdepth, hflight, hlost⟩, ?_⟩
  simp only [State.balanced, hcreated, hjournaled, hdepth, hflight, hlost]
  rfl

/-- Settles O56: every act keeps the balance, and both resets start it at 0. -/
theorem stepsKeepBalance : Obligations.StepsKeepBalance := by
  refine ⟨fun s t hstep hs => step_keeps (fun _ _ hact => moves_balanced (act_moves hact)) hstep hs,
    fun s t hexec => ?_, fun n tag s t hready hexec => ?_⟩
  · obtain ⟨u, hu, hreset, -⟩ := pinResetTakesResetValues s
    cases hu.symm.trans hexec
    exact zero_of_blocksReset hreset
  · obtain ⟨u, hu, hreset, -⟩ := restartResetsThePart n tag s hready
    cases hu.symm.trans hexec
    exact zero_of_blocksReset hreset

end Sys2Proof.Machine
end

section
/-! PROOFS. Every step keeps the Journal Writer and the Event Queue as chapters 5 and 6 allow (O58). -/

namespace Sys2Proof.Machine

/-! ## The Event Queue -/

/-- Arrivals fill the queue to depth 32 and no further, and lose an event only where it is full (R69, R75). -/
theorem arriveAll_depth {q : EventQueue} (h : q.depth ≤ 32) (events : List Event) :
    q.depth ≤ (q.arriveAll events).depth ∧ (q.arriveAll events).depth ≤ 32 ∧
      ((q.arriveAll events).hasUnreported = true → q.hasUnreported = true ∨ (q.arriveAll events).depth = 32) := by
  induction events generalizing q with
  | nil => exact ⟨le_rfl, h, .inl⟩
  | cons e events ih =>
    have hall : q.arriveAll (e :: events) = (q.arrive e).arriveAll events := rfl
    rw [hall]
    rcases arrive_depth q e with ⟨hroom, hdepth, -, hun⟩ | ⟨hfull, hdepth, -, -⟩
    · obtain ⟨hle, hmax, hloss⟩ := ih (q := q.arrive e) (by omega)
      exact ⟨by omega, hmax, fun h => hun ▸ hloss h⟩
    · obtain ⟨hle, hmax, -⟩ := ih (q := q.arrive e) (by omega)
      exact ⟨by omega, hmax, fun _ => .inr (by omega)⟩

theorem arriveAll_takeMet (q : EventQueue) (events : List Event) : (q.arriveAll events).takeMet = q.takeMet := by
  induction events generalizing q with
  | nil => rfl
  | cons e events ih =>
    obtain ⟨-, -, hmet⟩ := q.arrive_totals e
    exact (ih (q.arrive e)).trans hmet

theorem not_hasUnreported_of_takeDue {s : State} (h : s.takeDue = true) : s.queue.hasUnreported = false := by
  simp only [State.takeDue, Bool.and_eq_true, Bool.not_eq_true'] at h
  exact h.2

/-- Every act keeps the queue at no more than 32 events, and full while a met take is still to be made (R69, log 22). -/
theorem moves_queueWf {s t : State} (h : s.Moves t) (hs : s.queue.wf) : t.queue.wf := by
  obtain ⟨hmax, hmet⟩ := hs
  cases h with
  | reset _ hq => rw [hq]; exact reset_queue_wf
  | handed _ hq =>
    obtain ⟨events, hq⟩ := hq
    obtain ⟨hle, hmax', hloss⟩ := arriveAll_depth hmax events
    rw [hq]
    refine ⟨hmax', fun htake => ?_⟩
    rw [EventQueue.meetTake_depth]
    simp only [EventQueue.meetTake, Bool.or_eq_true, Bool.and_eq_true, arriveAll_takeMet] at htake
    rcases htake with hbefore | ⟨hdue, hun⟩
    · have := hmet hbefore
      omega
    · rcases hloss hun with hun | hfull
      · rw [not_hasUnreported_of_takeDue hdue] at hun
        cases hun
      · exact hfull
  | begins content hmay hnext =>
    rcases nextContent_cases hnext with ⟨hnot, -, hq⟩ | ⟨c, e, rest, hlist, -, hq⟩
    · rw [hq]
      exact ⟨hmax, fun htake => absurd htake (by simp [hnot])⟩
    · have hdepth : (s.queue.setList c rest).depth + 1 = s.queue.depth :=
        depth_setList_shorter s.queue (by rw [hlist]; rfl)
      have htaken : t.queue.depth = (s.queue.setList c rest).depth := by rw [hq]; rfl
      exact ⟨by omega, fun htake => by rw [hq] at htake; cases htake⟩
  | word _ _ _ _ hq => rw [hq]; exact ⟨hmax, hmet⟩
  | published r _ _ hq =>
    rw [hq]
    cases r.content <;> exact ⟨hmax, hmet⟩
  | installed _ _ _ _ hq =>
    obtain ⟨events, hq⟩ := hq
    rw [hq]
    exact ⟨(arriveAll_depth hmax events).2.1, nofun⟩

/-! ## The ring's indices -/

/-- The distance of two indices below 2L, without the modulus (R85). -/
theorem ring_distance {m p i : Nat} (hp : p < m) (hi : i < m) :
    (p + m - i) % m = if i ≤ p then p - i else p + m - i := by
  split
  · rw [show p + m - i = p - i + m by omega, Nat.add_mod_right, Nat.mod_eq_of_lt (by omega)]
  · exact Nat.mod_eq_of_lt (by omega)

/-- The index after an index below 2L, without the modulus (R85). -/
theorem ring_next {m p : Nat} (hp : p < m) : (p + 1) % m = if p + 1 = m then 0 else p + 1 := by
  split
  next h => rw [h, Nat.mod_self]
  next => exact Nat.mod_eq_of_lt (by omega)

/-- A publication takes P one further from an index, short of the whole ring (R85, R88). -/
theorem ring_distance_next {m p i : Nat} (hp : p < m) (hi : i < m) (hd : (p + m - i) % m + 1 < m) :
    ((p + 1) % m + m - i) % m = (p + m - i) % m + 1 := by
  have hnext : (p + 1) % m < m := Nat.mod_lt _ (by omega)
  rw [ring_distance hnext hi]
  rw [ring_distance hp hi] at hd ⊢
  rw [ring_next hp]
  grind

theorem distance_self (m p : Nat) : (p + m - p) % m = 0 := by
  rw [Nat.add_sub_cancel_left, Nat.mod_self]

theorem occupancy_of_ring {j : Journal} (h : j.length ≠ 0) : j.occupancy = j.distance j.consume := if_neg h

/-! ## The Journal Writer -/

/-- An applied consume write keeps the Journal Writer (R94, R98, R99). -/
theorem applyConsume_wf {j : Journal} (h : j.wf) (hring : j.length ≠ 0) {v : Nat} (hlegal : j.consumeLegal v = true) :
    Journal.wf { j.applyConsume v with attn := (j.applyConsume v).attnLevel } := by
  obtain ⟨hlegalRing, -, hindices, hurgent, hrecord, hinstall, -⟩ := h
  obtain ⟨hp, -, hu, hocc⟩ := hindices hring
  simp only [Journal.consumeLegal, Bool.and_eq_true, decide_eq_true_eq] at hlegal
  obtain ⟨hv, hle⟩ := hlegal
  rw [occupancy_of_ring hring] at hocc
  have hafter : Journal.occupancy { j.applyConsume v with attn := (j.applyConsume v).attnLevel } = j.distance v :=
    if_neg hring
  refine ⟨hlegalRing, fun h0 => absurd h0 hring, fun _ => ⟨hp, hv, hu, ?_⟩, fun hpending => ?_, fun r hr => ?_, hinstall,
    rfl⟩
  · rw [hafter]
    exact hle.trans hocc
  · rw [hafter]
    exact of_decide_eq_true (Bool.and_eq_true_iff.1 hpending).2
  · obtain ⟨hindex, hwords, hroom⟩ := hrecord r hr
    rw [occupancy_of_ring hring] at hroom
    exact ⟨hindex, hwords, by rw [hafter]; exact hle.trans_lt hroom⟩

/-- A request that is taken while no record is in flight (R101). -/
theorem takeRequest_wf {j : Journal} (h : j.wf) (hrecord : j.record = none) : j.takeRequest.wf := by
  obtain ⟨hring, hoff, hindices, hurgent, hflight, hinstall, hattn⟩ := h
  refine ⟨hring, hoff, hindices, hurgent, hflight, fun r hr => ?_, hattn⟩
  obtain ⟨q, hq, rfl⟩ := Option.map_eq_some_iff.1 hr
  exact ⟨(hinstall q hq).1, fun _ => hrecord⟩

theorem told_wf {j j' : Journal} (h : j.wf) (htold : j.Told j') : j'.wf := by
  cases htold with
  | same => exact h
  | image v => exact h
  | consume v hring hlegal => exact applyConsume_wf (j := { j with consumeImage := v }) h hring hlegal
  | request r hring ht =>
    obtain ⟨hlegal, hoff, hindices, hurgent, hflight, -, hattn⟩ := h
    refine ⟨hlegal, hoff, hindices, hurgent, hflight, fun q hq => ?_, hattn⟩
    cases hq
    exact ⟨hring, fun htaken => by rw [ht] at htaken; cases htaken⟩
  | taken hrecord => exact takeRequest_wf h hrecord

/-- A writer that may begin a record has room for it (R86, R87). -/
theorem room_of_mayBegin {s : State} (h : s.mayBegin = true) (hwf : s.journal.wf) :
    s.journal.occupancy < s.journal.length ∧ s.journal.install = none := by
  have hrecord := record_none_of_mayBegin h
  simp only [State.mayBegin, Journal.standsReady, Journal.state, hrecord, Bool.and_eq_true, beq_iff_eq,
    Option.isNone_iff_eq_none] at h
  obtain ⟨⟨hready, hinstall⟩, -⟩ := h
  refine ⟨?_, hinstall⟩
  obtain ⟨-, -, hindices, -⟩ := hwf
  split at hready
  · cases hready
  next hring =>
    obtain ⟨-, -, -, hocc⟩ := hindices hring
    split at hready
    next => contradiction
    next =>
      split at hready
      · cases hready
      next hne => omega

/-- The record that a writer begins (R87). -/
theorem record_wf {j : Journal} (h : j.wf) (hroom : j.occupancy < j.length) (hinstall : j.install = none)
    (content : RecordContent) : Journal.wf { j with record := some ⟨content, j.produce, 0⟩ } := by
  obtain ⟨hring, -, hindices, hurgent, -, -, hattn⟩ := h
  refine ⟨hring, fun h0 => ?_, hindices, hurgent, fun r hr => ?_, fun r hr => ?_, hattn⟩
  · exact absurd (show j.length = 0 from h0) (by omega)
  · cases hr
    exact ⟨rfl, Nat.zero_le _, hroom⟩
  · rw [show j.install = some r from hr] at hinstall
    cases hinstall

/-- A record in flight whose next word is taken (R88). -/
theorem wordTaken_wf {j : Journal} (h : j.wf) {r : RecordInFlight} (hr : j.record = some r)
    (hw : r.wordsTaken < recordWords j.format) :
    Journal.wf { j with record := some { r with wordsTaken := r.wordsTaken + 1 } } := by
  obtain ⟨hring, hoff, hindices, hurgent, hflight, hinstall, hattn⟩ := h
  obtain ⟨hindex, -, hroom⟩ := hflight r hr
  refine ⟨hring, fun h0 => ?_, hindices, hurgent, fun q hq => ?_, fun q hq => ⟨(hinstall q hq).1, fun ht => ?_⟩, hattn⟩
  · obtain ⟨-, -, -, -, hnone⟩ := hoff h0
    rw [hr] at hnone
    cases hnone
  · cases hq
    exact ⟨hindex, hw, hroom⟩
  · have hnone := (hinstall q hq).2 ht
    rw [hr] at hnone
    cases hnone

/-- A publication (R88, R98): P advances within the room that the record had. -/
theorem published_wf {j : Journal} (h : j.wf) {r : RecordInFlight} (hr : j.record = some r) :
    Journal.wf { j.published r.content with attn := (j.published r.content).attnLevel } := by
  obtain ⟨hlegal, hoff, hindices, hurgent, hflight, hinstall, -⟩ := h
  obtain ⟨-, -, hroom⟩ := hflight r hr
  have hring : j.length ≠ 0 := by omega
  obtain ⟨hp, hc, hu, -⟩ := hindices hring
  rw [occupancy_of_ring hring] at hroom hurgent
  have hnext : j.next j.produce < 2 * j.length := Nat.mod_lt _ (by omega)
  have hadvance : ∀ i, i < 2 * j.length → j.distance i + 1 < 2 * j.length →
      Journal.distance { j.published r.content with attn := (j.published r.content).attnLevel } i = j.distance i + 1 :=
    fun i hi hd => ring_distance_next hp hi hd
  have hocc : Journal.occupancy { j.published r.content with attn := (j.published r.content).attnLevel } =
      j.distance j.consume + 1 := (if_neg hring).trans (hadvance j.consume hc (by omega))
  refine ⟨hlegal, fun h0 => absurd h0 hring, fun _ => ⟨hnext, hc, ?_, ?_⟩, fun hpending => ?_, nofun, fun q hq => ?_, rfl⟩
  · show (if r.content.cls == 0 then j.next j.produce else j.urgentIndex) < 2 * j.length
    split
    · exact hnext
    · exact hu
  · rw [hocc]
    exact hroom
  · rw [hocc]
    show Journal.distance _ (if r.content.cls == 0 then j.next j.produce else j.urgentIndex) < _
    split
    next =>
      have hself : Journal.distance { j.published r.content with attn := (j.published r.content).attnLevel }
          (j.next j.produce) = 0 := distance_self _ _
      omega
    next hcls =>
      have hbefore : j.urgentPending = true := by
        have hor : (r.content.cls == 0 || j.urgentPending) = true := hpending
        exact (Bool.or_eq_true_iff.1 hor).resolve_left hcls
      have hlt := hurgent hbefore
      rw [hadvance _ hu (by omega)]
      omega
  · obtain ⟨i, hi, rfl⟩ := Option.map_eq_some_iff.1 hq
    exact ⟨(hinstall i hi).1, fun _ => rfl⟩

/-- The installed ring is empty (R102). -/
theorem installed_wf {j : Journal} {r : InstallRequest} (hring : legalRing r.base r.length r.threshold r.format)
    (hrecord : j.record = none) : Journal.wf { j.installed r with attn := (j.installed r).attnLevel } := by
  have hnone : ∀ q, j.record ≠ some q := by simp [hrecord]
  refine ⟨hring, fun _ => ⟨rfl, rfl, rfl, rfl, hrecord⟩, fun h0 => ?_, nofun, fun q hq => absurd hq (hnone q), nofun, rfl⟩
  have hpos : 0 < 2 * r.length := by
    have : r.length ≠ 0 := h0
    omega
  have hocc : Journal.occupancy { j.installed r with attn := (j.installed r).attnLevel } = 0 :=
    (if_neg h0).trans (distance_self _ _)
  exact ⟨hpos, hpos, hpos, by rw [hocc]; exact Nat.zero_le _⟩

/-- Every act keeps the Journal Writer as chapter 6 allows (R84 to R86, R98, R99, R101). -/
theorem moves_journalWf {s t : State} (h : s.Moves t) (hs : s.journal.wf) : t.journal.wf := by
  cases h with
  | handed hj => exact told_wf hs hj
  | reset hj => rw [hj]; exact reset_journal_wf
  | begins content hmay _ hj =>
    obtain ⟨hroom, hinstall⟩ := room_of_mayBegin hmay hs
    rw [hj]
    exact record_wf hs hroom hinstall content
  | word r hr hw hj => rw [hj]; exact wordTaken_wf hs hr hw
  | published r hr hj => rw [hj]; exact published_wf hs hr
  | installed r hrecord hr hj =>
    obtain ⟨-, -, -, -, -, hinstall, -⟩ := hs
    rw [hj]
    exact installed_wf (hinstall r hr).1 hrecord

/-- Settles O58: every act keeps each of the two. -/
theorem stepsKeepJournalWriterAndQueue : Obligations.StepsKeepJournalWriterAndQueue := fun _ _ hstep =>
  ⟨step_keeps (P := fun s => s.journal.wf) (fun _ _ hact => moves_journalWf (act_moves hact)) hstep,
    step_keeps (P := fun s => s.queue.wf) (fun _ _ hact => moves_queueWf (act_moves hact)) hstep⟩

end Sys2Proof.Machine
end

section
/-! PROOFS. A rejected consume write (O14), and the event of a MARK (O43). -/

namespace Sys2Proof.Machine

/-! ## A write judged beside another Journal Writer and queue -/

/-- What a write does at an entry and in its slots depends on the entries, the slots and the tick counter alone. -/
theorem writeAtEntry_congr {s t : State} (he : t.entries = s.entries) (hs : t.slots = s.slots)
    (ht : t.timebase = s.timebase) (w : HostWrite) (n : Index) :
    (State.writeAtEntry w n t).entries = (State.writeAtEntry w n s).entries ∧
      (State.writeAtEntry w n t).slots = (State.writeAtEntry w n s).slots := by
  have hentry := entry_of_entries he n
  by_cases hf : (s.entry n).state = .free
  · have hft : (t.entry n).state = .free := by rw [hentry, hf]
    simp only [State.writeAtEntry, hf, hft]
    exact ⟨he, hs⟩
  · have hsame : s.SameFor t w n := ⟨hentry, slot_of_slots hs _, ht⟩
    obtain ⟨hwritten, hafter, -⟩ := hsame.judgement
    have hslot := slotAfterWrite_congr (w := w) hentry (slot_of_slots hs _)
    rw [writeAtEntry_eq s w n hf, writeAtEntry_eq t w n (by rwa [hentry]), hwritten, hafter, hslot]
    simp only [State.emitAll, State.setSlot, State.setEntry, he, hs, and_self]

theorem evaluate_congr {s t : State} (he : t.entries = s.entries) (hs : t.slots = s.slots)
    (ht : t.timebase = s.timebase) (w : HostWrite) :
    (t.evaluate w).entries = (s.evaluate w).entries ∧ (t.evaluate w).slots = (s.evaluate w).slots := by
  have hholders : t.holders w.addr = s.holders w.addr := by simp only [State.holders, entry_of_entries he]
  rw [State.evaluate, State.evaluate, hholders]
  generalize s.holders w.addr = ns
  induction ns generalizing s t with
  | nil => exact ⟨he, hs⟩
  | cons n ns ih =>
    obtain ⟨he', hs'⟩ := writeAtEntry_congr he hs ht w n
    refine ih he' hs' (by simpa using ht) ?_
    simp only [State.holders, entry_of_entries he']

/-- An evaluated write changes entries, slots and the queue only. -/
theorem evaluate_frame (s : State) (w : HostWrite) :
    s.evaluate w = { s with
      entries := (s.evaluate w).entries, slots := (s.evaluate w).slots, queue := (s.evaluate w).queue } := by
  simp only [← State.evaluate_freeCount s w, ← State.evaluate_journal s w, ← State.evaluate_proc s w,
    ← State.evaluate_port s w, ← State.evaluate_timebase s w, ← State.evaluate_scrubber s w, ← State.evaluate_mem s w,
    ← State.evaluate_freeCounter s w, ← State.evaluate_pending s w]

/-- The events a write creates at the entries that hold its word, in the order of the visit (R25, R37). -/
def State.eventsOf (s : State) (w : HostWrite) : List Event := (s.holders w.addr).flatMap (s.writeEvents w)

/-- A write evaluated beside another Journal Writer and with another queue. -/
theorem evaluate_beside {s : State} (h : s.slotsWf) (w : HostWrite) (j : Journal) (q : EventQueue) :
    State.evaluate { s with journal := j, queue := q } w =
      { s.evaluate w with journal := j, queue := q.arriveAll (s.eventsOf w) } := by
  obtain ⟨hentries, hslots⟩ := evaluate_congr (s := s) (t := { s with journal := j, queue := q }) rfl rfl rfl w
  obtain ⟨-, hqueue⟩ := judgement_evaluate (s := { s with journal := j, queue := q }) h w
  rw [evaluate_frame { s with journal := j, queue := q } w, hentries, hslots, hqueue, evaluate_frame s w]
  rfl

/-! ## A rejected consume write -/

theorem takeConsume_rejected {s : State} {lanes : Lanes} {data : Word} (h : s.consumeRejected lanes data = true) :
    s.takeConsume lanes data = s.setConsumeImage (s.consumeValue lanes data) := by
  simp only [State.takeConsume, h, Bool.or_true, if_true]

theorem arriveAll_concat (q : EventQueue) (es : List Event) (e : Event) :
    q.arriveAll (es ++ [e]) = (q.arriveAll es).arrive e := by
  simp only [EventQueue.arriveAll, List.foldl_append, List.foldl_cons, List.foldl_nil]

/-- A rejected consume write at the Evaluator and at the Journal Writer: the CONSUME_ERROR comes before the entries'
events or after them (R71, R95, R96). -/
theorem consumeAndEvaluate_rejected {s : State} (hslots : s.slotsWf) {w : HostWrite}
    (h : s.consumeRejected w.lanes w.data = true) {image : Word} (himage : s.consumeValue w.lanes w.data = image) :
    ∃ q k, s.consumeAndEvaluate w = { s.evaluate w with
        journal := { s.journal with consumeImage := image }, queue := q, freeCounter := k } ∧
      (q = s.queue.arriveAll (s.consumeError image :: s.eventsOf w) ∨
        q = s.queue.arriveAll (s.eventsOf w ++ [s.consumeError image])) := by
  generalize herror : s.consumeError image = error
  have hlate : s.queue.arriveAll (s.eventsOf w ++ [error]) = (s.queue.arriveAll (s.eventsOf w)).arrive error :=
    arriveAll_concat _ _ _
  have hjudged : (s.setConsumeImage image).evaluate w = { s.evaluate w with
      journal := { s.journal with consumeImage := image }, queue := s.queue.arriveAll (s.eventsOf w) } :=
    evaluate_beside hslots w _ _
  have hafter : ((s.setConsumeImage image).emit error).evaluate w = { s.evaluate w with
      journal := { s.journal with consumeImage := image }
      queue := s.queue.arriveAll (error :: s.eventsOf w) } := evaluate_beside hslots w _ _
  unfold State.consumeAndEvaluate
  dsimp only
  rw [if_pos h, takeConsume_rejected h, himage, herror, hjudged, hafter]
  generalize s.evaluate w = judged
  generalize s.eventsOf w = events at hlate ⊢
  split
  · exact ⟨_, judged.freeCounter, rfl, .inr hlate.symm⟩
  · split
    · exact ⟨_, s.freeCounter + 1, rfl, .inl rfl⟩
    · exact ⟨_, s.freeCounter + 1, rfl, .inr hlate.symm⟩

/-- A write of CONSUME that is a byte write, or whose value is illegal, is rejected where a ring is installed (R94,
R95). -/
theorem consumeRejected_of {s : State} {lanes : Lanes} {data : Word} (hring : s.journal.length ≠ 0)
    (h : lanes ≠ ⟨true, true⟩ ∨ 2 * s.journal.length ≤ data.toNat ∨
      s.journal.distance s.journal.consume < s.journal.distance data.toNat) :
    s.consumeRejected lanes data = true := by
  by_cases hfull : lanes = ⟨true, true⟩
  · replace h := h.resolve_left (not_not.2 hfull)
    have hvalue : s.consumeValue lanes data = data := by rw [hfull]; exact mergeLanes_both _ _
    have hillegal : s.journal.consumeLegal data.toNat = false := by
      simp only [Journal.consumeLegal, Bool.and_eq_false_iff, decide_eq_false_iff_not]
      omega
    simp [State.consumeRejected, hvalue, hillegal, hring]
  · have hbyte : isFull lanes = false := by
      obtain ⟨lower, upper⟩ := lanes
      cases lower <;> cases upper <;> simp_all [isFull]
    simp [State.consumeRejected, hbyte, hring]

/-- A write of CONSUME at a ready port (R132). -/
theorem exec_consume_of_ready {s : State} (h : s.hostReady) {lanes : Lanes} (hlane : (lanes.lower || lanes.upper) = true)
    (data : Word) :
    exec (.consume lanes data) s = .next (s.hostTaking.meetTake (State.consumeAndEvaluate
      { s.hostTaking with mem := Memory.writeLanes s.hostTaking.mem (s.cb 0x002) lanes data }
      ⟨s.cb 0x002, lanes, data⟩)) := by
  have hany : anyLane lanes = true := hlane
  have hcb : s.cb 0x002 = s.hostTaking.cb Config.cbConsume := (hostTaking_cb s _).symm
  have hexec : exec (.consume lanes data) s = .next (s.takeHostWrite ⟨s.cb 0x002, lanes, data⟩) := rfl
  rw [hexec, takeHostWrite_of_ready h]
  simp only [State.hostWriteTaken, State.announceWrite, hany, Bool.not_true, Bool.false_eq_true, if_false, if_pos hcb]

/-- A taken write beside another Journal Writer, in its act. -/
theorem meetTake_beside (s judged : State) (j : Journal) (q : EventQueue) (k : Nat) :
    s.meetTake { judged with journal := j, queue := q, freeCounter := k } =
      { s.meetTake judged with journal := j, queue := q.meetTake s.takeDue, freeCounter := k } := rfl

/-- Settles O14: the write of `consumeAndEvaluate_rejected`, in the state in which the port takes it. -/
theorem consumeRejected : Obligations.ConsumeRejected := by
  intro lanes data s h hslots hlane j w image occupancy events error hring hbad
  have hrejected : s.consumeRejected lanes data = true := consumeRejected_of hring hbad
  rw [exec_consume_of_ready h hlane, ← hostTaking_takeDue]
  have hjudged : s.hostTaking.judged w = s.hostTaking.meetTake
      (State.evaluate { s.hostTaking with mem := Memory.writeLanes s.hostTaking.mem (s.cb 0x002) lanes data } w) := rfl
  rw [hjudged]
  have hstored : ∀ port mem, ∃ q k, State.consumeAndEvaluate { s with port := port, mem := mem } w =
      { State.evaluate { s with port := port, mem := mem } w with
        journal := { j with consumeImage := image }, queue := q, freeCounter := k } ∧
      (q = s.queue.arriveAll (error :: events) ∨ q = s.queue.arriveAll (events ++ [error])) := fun port mem =>
    consumeAndEvaluate_rejected (s := { s with port := port, mem := mem }) (w := w) hslots hrejected rfl
  obtain ⟨q, k, htaken, hq⟩ := hstored s.hostTaking.port (Memory.writeLanes s.hostTaking.mem (s.cb 0x002) lanes data)
  have hstate : ∀ mem, { s.hostTaking with mem := mem } = { s with port := s.hostTaking.port, mem := mem } := fun mem => by
    conv_lhs => rw [hostTaking_eq]
  rw [hstate, htaken, meetTake_beside]
  generalize s.hostTaking.meetTake _ = judged
  refine ⟨_, rfl, rfl, ?_⟩
  exact hq.imp (congrArg (EventQueue.meetTake · s.hostTaking.takeDue)) (congrArg (EventQueue.meetTake · s.hostTaking.takeDue))

/-! ## MARK -/

theorem markClass_eq (operand : Index) : markClass operand = BitVec.ofNat 2 (operand.toNat % 4) := by
  apply BitVec.eq_of_toNat_eq
  simp [markClass, BitVec.extractLsb'_toNat]

/-- A MARK in the act of its read: its event arrives, and the command ends with DONE (R121). -/
theorem meetTake_finishMark (s b : State) (operand : Index) (argument : Word) :
    s.meetTake (b.finishMark operand argument) = { b with
      queue := (b.queue.arrive (b.markEvent operand argument)).meetTake s.takeDue
      proc := b.proc.publishing .done } := rfl

/-- Settles O43: the one read of a MARK is its last. -/
theorem markCreatesEvent : Obligations.MarkCreatesEvent := by
  intro c earlier offset s h hop b
  obtain ⟨-, -, -, -, hreads, hlen⟩ := id h
  have hone : commandReads c = [0x001] := by rw [commandReads, if_neg (by rw [hop]; decide), if_pos hop]
  rw [hone] at hreads
  obtain ⟨rfl, rfl⟩ : earlier = [] ∧ offset = 0x001 := by
    cases earlier with
    | nil => simpa using hreads.symm
    | cons x xs => simp at hreads
  have hwords : b.proc.readWords = [Memory.readWord s.mem (s.cb 0x001)] := by
    have hnone : s.proc.readWords = [] := List.length_eq_zero_iff.1 hlen.symm
    show s.proc.readWords ++ _ = _
    rw [hnone]
    rfl
  obtain ⟨-, -, -, hqueue, -, htime, -⟩ := afterRead_frame s 0x001
  have hfinish : b.finishReading c b.proc.readWords = b.finishMark c.operand (Memory.readWord s.mem (s.cb 0x001)) := by
    rw [hwords]
    simp only [State.finishReading, hop]
    rfl
  rw [commandRead_last h]
  show Host.Outcome.next (s.meetTake (b.finishReading c b.proc.readWords)) = _
  rw [hfinish, meetTake_finishMark, State.markEvent, markClass_eq, hqueue, htime]

end Sys2Proof.Machine
end

section
/-! PROOFS. The Journal Writer's acts: a record begun (O23), a publication (O26) and an installation (O28). -/

namespace Sys2Proof.Machine

/-! ## When a record begins -/

theorem standsReady_iff (j : Journal) : j.standsReady = true ↔ j.state = .ready ∧ j.install = none := by
  simp [Journal.standsReady]

theorem hasUnreported_iff (q : EventQueue) : q.hasUnreported = true ↔ ∃ c, q.unreportedOf c ≠ 0 := by
  simp [EventQueue.hasUnreported, mem_classes]

theorem depth_pos_of_list {q : EventQueue} {c : EventClass} {e : Event} {rest : List Event} (h : q.list c = e :: rest) :
    0 < q.depth := by
  have hdepth : (q.setList c rest).depth + 1 = q.depth := depth_setList_shorter q (by rw [h]; rfl)
  omega

theorem exec_beginRecord_of_not {s : State} (h : s.mayBegin = false) : exec .beginRecord s = .next s := by
  have hexec : exec .beginRecord s = .next (if s.mayBegin then s.begin else s) := rfl
  rw [hexec, h]
  rfl

theorem exec_beginRecord_of {s : State} (h : s.mayBegin = true) {content : RecordContent} {q : EventQueue}
    (hnext : s.nextContent = some (content, q)) :
    exec .beginRecord s = .next { s with
      queue := q
      journal := { s.journal with record := some { content := content, index := s.journal.produce, wordsTaken := 0 } } } := by
  have hexec : exec .beginRecord s = .next (if s.mayBegin then s.begin else s) := rfl
  rw [hexec, if_pos h, State.begin, hnext]

/-- The oldest event of the most urgent class present is taken (R72). -/
theorem take_eq {q : EventQueue} {c : EventClass} {e : Event} {rest : List Event} (hlist : q.list c = e :: rest)
    (hnone : ∀ c' : EventClass, c'.toNat < c.toNat → q.list c' = []) : q.take = some (e, q.setList c rest) := by
  have hurgent : q.mostUrgent = some c := mostUrgent_eq (by rw [hlist]; nofun) hnone
  simp only [EventQueue.take, hurgent, hlist]

/-- A take of an event is due (R72, R87). -/
theorem takeDue_iff (s : State) : s.takeDue = true ↔
    s.journal.standsReady = true ∧ 0 < s.queue.depth ∧ ¬s.queue.hasUnreported = true := by
  simp [State.takeDue, and_assoc]

/-- One arrival in an act that begins with no loss unreported meets a take exactly where a take was due and the queue
was full (R74). -/
theorem arrive_meets {s : State} (hun : ¬s.queue.hasUnreported = true) (e : Event) :
    ((s.queue.arrive e).meetTake s.takeDue).takeMet =
      (s.queue.takeMet || (s.takeDue && decide (32 ≤ s.queue.depth))) := by
  obtain ⟨-, -, hmet⟩ := s.queue.arrive_totals e
  have hloss : (s.queue.arrive e).hasUnreported = decide (32 ≤ s.queue.depth) := by
    rcases arrive_depth s.queue e with ⟨hroom, -, -, h⟩ | ⟨hfull, -, -, h⟩
    · rw [h, decide_eq_false (by omega), Bool.eq_false_of_not_eq_true hun]
    · rw [h, decide_eq_true hfull]
  simp only [EventQueue.meetTake, hmet, hloss]

/-- Settles O23: the cases of `mayBegin` and `nextContent`, and when a take is met. -/
theorem beginRecordTakesLossesFirst : Obligations.BeginRecordTakesLossesFirst := by
  intro s ready unreported record
  have hready : s.journal.standsReady = true ↔ ready := standsReady_iff _
  have hun : s.queue.hasUnreported = true ↔ unreported := hasUnreported_iff _
  refine ⟨fun hnot => ?_, fun hr hu hmet => ?_, fun hr hu hempty => ?_, fun hr hu c e rest hlist hnone => ?_,
    fun hr hu e => ?_, fun hnot events => ?_⟩
  · exact exec_beginRecord_of_not (by simp [State.mayBegin, mt hready.1 hnot])
  · have hmay : s.mayBegin = true := by
      simp [State.mayBegin, hready.2 hr, EventQueue.somethingToJournal, hun.2 hu]
    exact exec_beginRecord_of hmay (by simp [State.nextContent, hun.2 hu, hmet])
  · have hdepth : s.queue.depth = 0 := by simp [depth_eq, hempty]
    have hnothing : s.queue.hasUnreported = false := Bool.eq_false_of_not_eq_true (mt hun.1 hu)
    exact exec_beginRecord_of_not (by simp [State.mayBegin, EventQueue.somethingToJournal, hdepth, hnothing])
  · have hmay : s.mayBegin = true := by
      simp [State.mayBegin, hready.2 hr, EventQueue.somethingToJournal, depth_pos_of_list hlist]
    have hevent : (s.queue.hasUnreported && !s.queue.takeMet) = false := by
      rcases hu with hu | hmet
      · simp [Bool.eq_false_of_not_eq_true (mt hun.1 hu)]
      · simp [hmet]
    refine exec_beginRecord_of hmay (q := { s.queue.setList c rest with takeMet := false }) ?_
    simp [State.nextContent, hevent, take_eq hlist hnone]
  · have hnone := mt hun.1 hu
    dsimp only
    rw [arrive_meets hnone]
    refine ⟨fun hfull => ?_, fun hroom => ?_⟩
    · have hdue : s.takeDue = true := (takeDue_iff s).2 ⟨hready.2 hr, by omega, hnone⟩
      simp [hdue, hfull]
    · simp [hroom]
  · have hdue : s.takeDue = false := by
      refine Bool.eq_false_of_not_eq_true fun hdue => ?_
      obtain ⟨hr, hpos, hnone⟩ := (takeDue_iff s).1 hdue
      rcases hnot with hnot | hu | hzero
      · exact hnot (hready.1 hr)
      · exact hnone (hun.2 hu)
      · omega
    rw [hdue, EventQueue.meetTake_false]

/-! ## Publication -/

theorem recordWords_eq (format : Format) : recordWords format = if format = .full then 8 else 4 := by
  cases format <;> rfl

/-- The Journal Writer after a publication, with ATTN at its level (R85, R88, R98, R99, R101). -/
theorem published_eq {j : Journal} (hring : j.length ≠ 0) (content : RecordContent) :
    { j.published content with attn := (j.published content).attnLevel } =
      { j with
        produce := (j.produce + 1) % (2 * j.length)
        urgentPending := decide (content.cls = 0) || j.urgentPending
        urgentIndex := if content.cls = 0 then (j.produce + 1) % (2 * j.length) else j.urgentIndex
        record := none
        install := j.install.map fun q => { q with taken := true }
        attn := decide (j.threshold ≤ ((j.produce + 1) % (2 * j.length) + 2 * j.length - j.consume) % (2 * j.length)) ||
          (decide (content.cls = 0) || j.urgentPending) } := by
  have hlevel : (j.published content).attnLevel =
      (decide (j.threshold ≤ ((j.produce + 1) % (2 * j.length) + 2 * j.length - j.consume) % (2 * j.length)) ||
        (content.cls == 0 || j.urgentPending)) := by
    have hocc : (j.published content).occupancy =
        ((j.produce + 1) % (2 * j.length) + 2 * j.length - j.consume) % (2 * j.length) := if_neg hring
    have hlength : ((j.published content).length != 0) = true := bne_iff_ne.2 hring
    rw [Journal.attnLevel, hocc, hlength, Bool.true_and]
    rfl
  rw [hlevel]
  simp only [Journal.published, Journal.takeRequest, Journal.next, beq_eq_decide, decide_eq_true_eq]

theorem countJournaled_eq (q : EventQueue) (content : RecordContent) :
    q.countJournaled content = { q with
      journaled := match content with
        | .event _ => q.journaled + 1
        | .loss _ _ => q.journaled } := by
  cases content <;> rfl

theorem publishRecord_eq (r : RecordInFlight) (s : State) :
    s.publishRecord r = { s with
      mem := Memory.writeWord s.mem (s.cb 0x012) (BitVec.ofNat 16 (s.journal.next s.journal.produce))
      queue := s.queue.countJournaled r.content
      journal := { s.journal.published r.content with attn := (s.journal.published r.content).attnLevel } } := rfl

theorem exec_publication_of {s : State} (hready : s.internalReady .writer) {r : RecordInFlight}
    (hr : s.journal.record = some r) (hwords : ¬r.wordsTaken < recordWords s.journal.format) :
    exec .publication s = .next (s.internalTaking.publishRecord r) := by
  show execPublication s = _
  simp only [execPublication, hr, if_neg hwords, takeInternal_of_ready hready]

/-- Settles O26: the publication of `publishRecord` in the state in which its access is taken. -/
theorem publicationAdvancesProduce : Obligations.PublicationAdvancesProduce := by
  intro r s hready hr j p urgent hring hwords
  have hj : s.internalTaking.journal = s.journal := by rw [internalTaking_eq]
  refine ⟨_, exec_publication_of hready hr (by rw [recordWords_eq]; exact hwords), ?_, ?_⟩
  · rewrite [publishRecord_eq, countJournaled_eq, hj, published_eq hring, internalTaking_eq]
    rfl
  · rw [internalTaking_eq]
    exact writeWord_storesWord _ _ _

/-! ## Installation -/

theorem takeInstallRequest_eq {s : State} (hrecord : s.journal.record = none) : s.takeInstallRequest = s.requestTaken := by
  unfold State.takeInstallRequest
  split
  next r hr =>
    split
    next => rfl
    next hc =>
      have htaken : r.taken = true := by simpa [hrecord] using hc
      have hsame : { r with taken := true } = r := by rw [← htaken]
      simp only [State.requestTaken, hr, Option.map_some, hsame]
      rw [← hr]
  next hnone =>
    simp only [State.requestTaken, hnone, Option.map_none]
    rw [← hnone]

/-- There is no installation without a request, nor while a record is in flight (log 12). -/
theorem exec_installation_of_none {s : State} (h : s.journal.install = none ∨ s.journal.record ≠ none) :
    exec .installation s = .next s := by
  have hnot : s.takeInstallRequest = s := by
    unfold State.takeInstallRequest
    split
    next r hr =>
      have hrecord := h.resolve_left (by simp [hr])
      rw [if_neg (by simp [hrecord])]
    next => rfl
  show execInstallation s = _
  unfold execInstallation
  rw [hnot]
  dsimp only
  split
  next r hrecord hr => rcases h with h | h <;> simp_all
  next => rfl

theorem exec_installation_of {s : State} (hready : s.requestTaken.internalReady .writer)
    (hrecord : s.journal.record = none) {r : InstallRequest} (hr : s.journal.install = some r) :
    exec .installation s = .next (s.requestTaken.internalTaking.install { r with taken := true }) := by
  have hinstall : s.requestTaken.journal.install = some { r with taken := true } := by
    simp only [State.requestTaken, hr, Option.map_some]
  have hnone : s.requestTaken.journal.record = none := hrecord
  show execInstallation s = _
  simp only [execInstallation, takeInstallRequest_eq hrecord, hinstall, hnone, takeInternal_of_ready hready]

/-- ATTN is low on an empty legal ring: its threshold is above 0 (R99, R122). -/
theorem installed_attnLevel {j : Journal} {r : InstallRequest} (h : legalRing r.base r.length r.threshold r.format) :
    (j.installed r).attnLevel = false := by
  have hlength : (j.installed r).length = r.length := rfl
  have hpending : (j.installed r).urgentPending = false := rfl
  have hthreshold : (j.installed r).threshold = r.threshold := rfl
  have hempty : (j.installed r).occupancy = 0 := by
    unfold Journal.occupancy
    split
    · rfl
    · exact distance_self _ _
  rw [Journal.attnLevel, hlength, hpending, hthreshold, hempty, Bool.or_false, Bool.and_eq_false_iff,
    decide_eq_false_iff_not]
  rcases h with ⟨h0, -⟩ | ⟨-, -, hpos, -⟩
  · exact .inl (by simp [h0])
  · exact .inr (by omega)

/-- The Journal Writer after an installation (R102), with ATTN low. -/
theorem installed_eq {j : Journal} (hrecord : j.record = none) {r : InstallRequest}
    (h : legalRing r.base r.length r.threshold r.format) :
    { j.installed r with attn := (j.installed r).attnLevel } =
      { base := r.base, length := r.length, format := r.format, threshold := r.threshold, produce := 0, consume := 0
        urgentIndex := 0, urgentPending := false, attn := false, consumeImage := j.consumeImage
        record := none, install := none } := by
  rw [installed_attnLevel h, ← hrecord]
  rfl

/-- The act of an installation (R102, R123). -/
theorem install_eq (r : InstallRequest) (s : State) :
    s.install r = { s with
      mem := Memory.writeWord s.mem (s.cb Config.cbProduce) 0
      journal := { s.journal.installed r with attn := (s.journal.installed r).attnLevel }
      queue := { (if r.length = 0 then s.queue else s.queue.arrive s.journalStart) with takeMet := false }
      proc := s.proc.publishing .done } := by
  by_cases h0 : r.length = 0
  · simp only [State.install, if_pos h0, State.writeWord, State.setJournal, State.publish, State.setProc,
      Processor.publishing]
  · simp only [State.install, if_neg h0, State.writeWord, State.emit, State.journalStart, State.setJournal,
      State.publish, State.setProc, Processor.publishing]

/-- Settles O28: the installation of `install` in the state in which its access is taken. -/
theorem installationStartsRing : Obligations.InstallationStartsRing := by
  refine ⟨fun s h => exec_installation_of_none h, fun r s hready hwf hrecord hr => ?_⟩
  obtain ⟨-, -, -, -, -, hinstall, -⟩ := hwf
  have hj : s.requestTaken.internalTaking.journal.record = none := by rw [internalTaking_eq]; exact hrecord
  refine ⟨_, exec_installation_of hready hrecord hr, ?_, ?_⟩
  · rw [install_eq, installed_eq hj (r := { r with taken := true }) (hinstall r hr).1, internalTaking_eq]
    simp only [State.requestTaken, State.journalStart]
  · rw [install_eq, internalTaking_eq]
    exact writeWord_storesWord s.mem (s.cb 0x012) 0

end Sys2Proof.Machine
end

section
/-! PROOFS. The words that a SNAPSHOT captures (O33). -/

namespace Sys2Proof.Machine

/-! ## Fields of a word -/

/-- Two fields side by side, as a number. -/
theorem append_toNat {m n : Nat} (x : BitVec m) (y : BitVec n) : (x ++ y).toNat = x.toNat * 2 ^ n + y.toNat := by
  rw [BitVec.toNat_append, ← Nat.shiftLeft_add_eq_or_of_lt y.isLt, Nat.shiftLeft_eq]

theorem eq_ofNat_of_toNat {x : Word} {v : Nat} (h : x.toNat = v) : x = BitVec.ofNat 16 v := by
  rw [← h, BitVec.ofNat_toNat, BitVec.setWidth_eq]

theorem lowWord_eq (x : BitVec 32) : lowWord x = BitVec.ofNat 16 (x.toNat % 65536) :=
  eq_ofNat_of_toNat (by simp [lowWord, BitVec.extractLsb'_toNat])

theorem highWord_eq (x : BitVec 32) : highWord x = BitVec.ofNat 16 (x.toNat / 65536) := by
  have := x.isLt
  refine eq_ofNat_of_toNat ?_
  simp only [highWord, BitVec.extractLsb'_toNat, Nat.shiftRight_eq_div_pow]
  omega

theorem ofBool_toNat (b : Bool) : (BitVec.ofBool b).toNat = if b = true then 1 else 0 := by
  cases b <;> rfl

/-! ## SUMMARY -/

/-- The code of the writer state (R86, 10.5). -/
theorem writerCode_toNat (j : Journal) : j.state.code.toNat =
    if j.length = 0 then 0 else if j.record.isSome then 3 else if j.occupancy = j.length then 2 else 1 := by
  unfold Journal.state
  (repeat' split) <;> rfl

theorem statusWord_eq (j : Journal) : j.statusWord = BitVec.ofNat 16
    ((if j.length = 0 then 0 else if j.record.isSome then 3 else if j.occupancy = j.length then 2 else 1)
      + (if j.urgentPending = true then 256 else 0) + (if j.attn = true then 512 else 0)) := by
  refine eq_ofNat_of_toNat ?_
  simp only [Journal.statusWord, append_toNat, writerCode_toNat, ofBool_toNat, BitVec.toNat_ofNat]
  grind

/-- The classes with an unreported loss (R81, 10.5). -/
theorem unreportedWord_eq (q : EventQueue) : q.unreportedWord = BitVec.ofNat 16
    ((if q.unreportedOf 0 ≠ 0 then 1 else 0) + (if q.unreportedOf 1 ≠ 0 then 2 else 0)
      + (if q.unreportedOf 2 ≠ 0 then 4 else 0) + (if q.unreportedOf 3 ≠ 0 then 8 else 0)) := by
  have hcount : ∀ c, lossCount q.unreported c = q.unreportedOf c := fun _ => rfl
  refine eq_ofNat_of_toNat ?_
  simp only [EventQueue.unreportedWord, lossBitmap, append_toNat, hcount, ofBool_toNat, bne_iff_ne, BitVec.toNat_ofNat]
  grind

theorem nonFree_eq (s : State) :
    s.nonFree = entryNumbers.countP fun m => decide ((s.entry m).state ≠ .free) :=
  List.countP_congr fun m _ => by simp

/-! ## ENTRY REPORT -/

/-- The first word of an ENTRY REPORT (10.5): the entry index and the entry's state. -/
theorem reportState_eq (state : EntryState) (n : Index) :
    (0#6 ++ state.code ++ 0#2 ++ n : BitVec (6 + 2 + 2 + 6)) = BitVec.ofNat 16 (n.toNat + 256 * state.code.toNat) := by
  refine eq_ofNat_of_toNat ?_
  simp only [append_toNat, BitVec.toNat_ofNat]
  omega

/-- Its second word (10.5): the holdoff state and the deadline state. -/
theorem reportTimers_eq (deadline : DeadlineState) (holdoff : HoldoffState) :
    (0#6 ++ deadline.code ++ 0#7 ++ holdoff.code : BitVec (6 + 2 + 7 + 1)) =
      BitVec.ofNat 16 ((if holdoff = .holding then 1 else 0) + 256 * deadline.code.toNat) := by
  cases deadline <;> cases holdoff <;> rfl

/-- Its fourth word (10.5): the miss count and the miss limit. -/
theorem reportMisses_eq (limit count : BitVec 4) :
    (0#4 ++ limit ++ 0#4 ++ count : BitVec (4 + 4 + 4 + 4)) = BitVec.ofNat 16 (count.toNat + 256 * limit.toNat) := by
  refine eq_ofNat_of_toNat ?_
  simp only [append_toNat, BitVec.toNat_ofNat]
  omega

/-- Its sixth word (10.5): the low half of the base. -/
theorem reportBase_eq (base : Addr) : base.extractLsb' 0 16 = BitVec.ofNat 16 (base.toNat % 65536) :=
  eq_ofNat_of_toNat (by simp [BitVec.extractLsb'_toNat])

/-- Its seventh word (10.5): the high bits of the base, and the span. -/
theorem reportSpan_eq (base : Addr) (span : BitVec 5) :
    (0#3 ++ span ++ 0#4 ++ base.extractLsb' 16 4 : BitVec (3 + 5 + 4 + 4)) =
      BitVec.ofNat 16 (base.toNat / 65536 + 256 * span.toNat) := by
  have := base.isLt
  refine eq_ofNat_of_toNat ?_
  simp only [append_toNat, BitVec.toNat_ofNat, BitVec.extractLsb'_toNat, Nat.shiftRight_eq_div_pow]
  omega

/-! ## SNAPSHOT -/

/-- A SNAPSHOT captures what it would capture before the write's events have met a take. -/
theorem captureOf_meetTake (s t : State) (n : Index) : (s.meetTake t).captureOf n = t.captureOf n := rfl

/-- A SNAPSHOT at IDLE, in the act of its write (R119, R120). -/
theorem takeSnapshot_of_idle {s : State} (h : s.hostReady) (hs : s.proc.state = .idle) (n : Index) (tag : CommandTag) :
    s.takeCommandWrite 6 n tag = { s.commandJudged 6 n tag with
      proc := Processor.present { s.proc with
        state := .publishing, slot := some ⟨6, n, tag⟩, readWords := [], result := some .done
        capture := (s.commandJudged 6 n tag).captureOf n } } := by
  have hproc : (s.hostTaking.evaluated (s.commandWrite 6 n tag)).proc = s.proc :=
    (evaluated_proc _ _).trans (hostTaking_proc s)
  have hcommand : ∀ t : State, t.takeCommand ⟨6, n, tag⟩ = t.beginPublishing ⟨6, n, tag⟩ .done (t.captureOf n) :=
    fun _ => rfl
  rw [takeCommandWrite_of_idle h hs (by decide) (by decide), hcommand, commandJudged_eq, captureOf_meetTake, ← hproc]
  rfl

/-- Settles O33: the words of `captureOf`, field by field. -/
theorem snapshotCapturesPart : Obligations.SnapshotCapturesPart := by
  intro n tag s h hs b e q j word low high occupancy writer bit summary state deadline report
  have hsummary : b.summaryWords = summary := by
    simp only [State.summaryWords, lowWord_eq, highWord_eq, statusWord_eq, unreportedWord_eq, nonFree_eq, depth_eq]
    rfl
  have hstate : state = e.state.code.toNat := by
    dsimp only [state]
    cases e.state <;> rfl
  have hdeadline : deadline = e.deadlineState.code.toNat := by
    dsimp only [deadline]
    cases e.deadlineState <;> rfl
  have hreport : b.reportWords n = report := by
    dsimp only [report]
    rw [hstate, hdeadline]
    simp only [State.reportWords, reportState_eq, reportTimers_eq, reportMisses_eq, reportBase_eq, reportSpan_eq]
    rfl
  have hcapture : b.captureOf n =
      ((List.range 24).map (0x020 + ·)).zip summary ++ ((List.range 32).map (0x040 + ·)).zip report := by
    rw [← hsummary, ← hreport]
    rfl
  have hexec : exec (.snapshot n tag) s = .next (s.takeCommandWrite 6 n tag) := rfl
  rw [hexec, takeSnapshot_of_idle h hs, hcapture]
  exact ⟨_, rfl, rfl, rfl⟩

end Sys2Proof.Machine
end

section
/-! PROOFS. The Journal Writer's ring: an install request taken (O27), the words of a record in their order (O24), and a
legal consume write (O13). -/

namespace Sys2Proof.Machine

/-! ## An install request -/

/-- Where no request waits to be taken, or a record is in flight, none is taken (R101; log 12). -/
theorem takeInstallRequest_eq_self {s : State}
    (h : ∀ r, s.journal.install = some r → r.taken = true ∨ s.journal.record ≠ none) : s.takeInstallRequest = s := by
  unfold State.takeInstallRequest
  split
  next r hr =>
    refine if_neg fun hc => ?_
    obtain ⟨htaken, hrecord⟩ : r.taken = false ∧ s.journal.record = none := by simpa using hc
    rcases h r hr with h | h
    · simp [htaken] at h
    · exact h hrecord
  next => rfl

/-- Settles O27: the cases of `takeInstallRequest`. -/
theorem installRequestIsTaken : Obligations.InstallRequestIsTaken := by
  intro s
  have hexec : exec .installRequestTaken s = .next s.takeInstallRequest := rfl
  rw [hexec]
  refine ⟨fun r hr _ hrecord => ⟨_, rfl, ?_⟩, fun r hr htaken => ?_, fun hnone => ?_⟩
  · have htaken : s.requestTaken = { s with journal := { s.journal with install := some { r with taken := true } } } := by
      simp only [State.requestTaken, hr, Option.map_some]
    rw [takeInstallRequest_eq hrecord, htaken]
    exact ⟨by simp [State.claims, Journal.claims], rfl⟩
  · rw [takeInstallRequest_eq_self fun q hq => .inl (by rw [← Option.some.inj (hr.symm.trans hq)]; exact htaken)]
  · rw [takeInstallRequest_eq_self fun q hq => .inr (hnone.resolve_left (by simp [hq]))]

/-! ## The words of a record -/

theorem exec_recordWordWrite_of {s : State} (hready : s.internalReady .writer) {r : RecordInFlight}
    (hr : s.journal.record = some r) (hwords : r.wordsTaken < recordWords s.journal.format) :
    exec .recordWordWrite s = .next (s.internalTaking.writeRecordWord r) := by
  show execRecordWordWrite s = _
  simp only [execRecordWordWrite, hr, if_pos hwords, takeInternal_of_ready hready]

/-- Settles O24: the word that `writeRecordWord` writes, and its place. -/
theorem recordWordsInOrder : Obligations.RecordWordsInOrder := by
  intro r s hready hr j words word hwords
  have hcount : recordWords j.format = words := recordWords_eq _
  have haddr : j.recordAddr (j.slotOf r.index) (recordOrder (recordWords j.format) r.wordsTaken) =
      BitVec.ofNat 20 (j.base.toNat + r.index % j.length * words + word) := by
    rw [Journal.recordAddr, hcount]
    rfl
  have hword : recordOrder (recordWords j.format) r.wordsTaken = word := by rw [hcount]; rfl
  refine ⟨_, exec_recordWordWrite_of hready hr (by rwa [recordWords_eq]), ?_, ?_⟩
  · rw [internalTaking_eq]
    rfl
  · rw [internalTaking_eq, ← haddr, ← hword]
    exact writeWord_storesWord _ _ _

/-! ## A legal consume write -/

/-- An entry deals with a write alike beside every Journal Writer. -/
theorem writeAtEntry_beside_journal (s : State) (w : HostWrite) (n : Index) (j : Journal) :
    State.writeAtEntry w n { s with journal := j } = { State.writeAtEntry w n s with journal := j } := by
  by_cases hf : (s.entry n).state = .free
  · have hft : (State.entry { s with journal := j } n).state = .free := hf
    simp only [State.writeAtEntry, hf, hft]
  · rw [writeAtEntry_eq s w n hf, writeAtEntry_eq { s with journal := j } w n hf]
    rfl

theorem evaluate_beside_journal (s : State) (w : HostWrite) (j : Journal) :
    State.evaluate { s with journal := j } w = { s.evaluate w with journal := j } :=
  List.foldl_hom (g₁ := fun t n => State.writeAtEntry w n t) (l := s.holders w.addr)
    (fun t : State => ({ t with journal := j } : State)) fun t n => writeAtEntry_beside_journal t w n j

/-- A consume write that is not rejected, at the Journal Writer and at the Evaluator. -/
theorem consumeAndEvaluate_of_not_rejected {s : State} {w : HostWrite} (h : s.consumeRejected w.lanes w.data = false)
    {j : Journal} (hj : s.takeConsume w.lanes w.data = { s with journal := j }) :
    s.consumeAndEvaluate w = { s.evaluate w with journal := j } := by
  rw [State.consumeAndEvaluate, if_neg (by simp [h]), hj, evaluate_beside_journal]

/-- A consume write that is not rejected, in the state in which the port takes it (R132). -/
theorem exec_consume_of_not_rejected {s : State} (h : s.hostReady) {lanes : Lanes}
    (hlane : (lanes.lower || lanes.upper) = true) {data : Word} (hlegal : s.consumeRejected lanes data = false)
    {j : Journal} (hj : ∀ t : State, t.journal = s.journal → t.takeConsume lanes data = { t with journal := j }) :
    exec (.consume lanes data) s =
      .next { s.hostTaking.judged ⟨s.cb 0x002, lanes, data⟩ with journal := j } := by
  have hsame : s.hostTaking.journal = s.journal := by rw [hostTaking_eq]
  rw [exec_consume_of_ready h hlane, consumeAndEvaluate_of_not_rejected (j := j)]
  · rfl
  · simpa only [State.consumeRejected, State.consumeValue, hsame] using hlegal
  · exact hj _ hsame

/-- With no ring a consume write is not judged (R95). -/
theorem consumeRejected_of_no_ring {s : State} (h : s.journal.length = 0) (lanes : Lanes) (data : Word) :
    s.consumeRejected lanes data = false := by
  simp [State.consumeRejected, h]

/-- A full write of a legal value is not rejected (R94, R95). -/
theorem consumeRejected_of_legal {s : State} {data : Word} (h : s.journal.consumeLegal data.toNat = true) :
    s.consumeRejected Lanes.both data = false := by
  have hvalue : s.consumeValue Lanes.both data = data := mergeLanes_both _ _
  have hfull : isFull Lanes.both = true := rfl
  simp [State.consumeRejected, hvalue, hfull, h]

theorem takeConsume_of_no_ring {s : State} (h : s.journal.length = 0) (lanes : Lanes) (data : Word) :
    s.takeConsume lanes data = s.setConsumeImage (s.consumeValue lanes data) := by
  simp only [State.takeConsume, h, decide_true, Bool.true_or, if_true]

/-- A legal consume write sets C and the flag of R98, and recomputes ATTN (R94, R96, R99). -/
theorem takeConsume_of_legal {s : State} (hring : s.journal.length ≠ 0) {data : Word}
    (h : s.journal.consumeLegal data.toNat = true) :
    s.takeConsume Lanes.both data = { s with journal := { s.journal with
      consume := data.toNat
      consumeImage := data
      urgentPending := s.journal.urgentPending &&
        decide (s.journal.distance s.journal.urgentIndex < s.journal.distance data.toNat)
      attn := decide (s.journal.threshold ≤ s.journal.distance data.toNat) ||
        (s.journal.urgentPending &&
          decide (s.journal.distance s.journal.urgentIndex < s.journal.distance data.toNat)) } } := by
  have hvalue : s.consumeValue Lanes.both data = data := mergeLanes_both _ _
  have hlevel : (Journal.applyConsume { s.journal with consumeImage := data } data.toNat).attnLevel =
      (decide (s.journal.threshold ≤ s.journal.distance data.toNat) ||
        (s.journal.urgentPending &&
          decide (s.journal.distance s.journal.urgentIndex < s.journal.distance data.toNat))) := by
    have hlength : ((Journal.applyConsume { s.journal with consumeImage := data } data.toNat).length != 0) = true :=
      bne_iff_ne.2 hring
    have hoccupancy : (Journal.applyConsume { s.journal with consumeImage := data } data.toNat).occupancy =
        s.journal.distance data.toNat := occupancy_of_ring hring
    rw [Journal.attnLevel, hlength, Bool.true_and, hoccupancy]
    rfl
  simp only [State.takeConsume, consumeRejected_of_legal h, hvalue, hring, decide_false, Bool.or_false,
    Bool.false_eq_true, if_false]
  rw [State.setJournal, State.setConsumeImage, hlevel]
  rfl

/-- Settles O13: `takeConsume` with no ring, and with a ring and a legal value. -/
theorem consumeAccepted : Obligations.ConsumeAccepted := by
  intro lanes data s h hlane j written image occupancy
  refine ⟨fun hring => ?_, fun hring hfull hrange hocc => ?_⟩
  · refine exec_consume_of_not_rejected h hlane (consumeRejected_of_no_ring hring lanes data) fun t ht => ?_
    rw [takeConsume_of_no_ring (by rwa [ht]), State.setConsumeImage, State.consumeValue, ht]
    rfl
  · subst hfull
    have hlegal : j.consumeLegal data.toNat = true := by
      rw [Journal.consumeLegal, decide_eq_true hrange, Bool.true_and]
      exact decide_eq_true hocc
    refine exec_consume_of_not_rejected h hlane (consumeRejected_of_legal hlegal) fun t ht => ?_
    have htaken := takeConsume_of_legal (s := t) (data := data) (by rwa [ht]) (by rwa [ht])
    rw [ht] at htaken
    exact htaken

end Sys2Proof.Machine
end

section
/-! PROOFS. The words of a record (O25). -/

namespace Sys2Proof.Machine

/-! ## The header -/

theorem formatBit_toNat (format : Format) : format.bit.toNat = if format = .full then 1 else 0 := by
  cases format <;> rfl

/-- The header's fields at their bits (R90, 10.6). -/
theorem recordHeader_toNat (format : Format) (lap : Bool) (c : RecordContent) :
    (recordHeader format lap c).toNat = 0x8000 + 0x1000 * c.kindCode.toNat + 0x400 * c.cls.toNat
      + (if format = .full then 0x200 else 0) + (if lap = true then 0x100 else 0) + c.index.toNat := by
  simp only [recordHeader, append_toNat, formatBit_toNat, ofBool_toNat, BitVec.toNat_ofNat]
  grind

theorem eventCode_toNat (kind : EventKind) : kind.code.toNat =
    match kind with
    | .edge => 0
    | .merged => 1
    | .stale => 2
    | .fresh => 3
    | .diverge => 4
    | .mark => 5
    | .notice => 6 := by
  cases kind <;> rfl

/-- The class of a LOSS record is the most urgent class with a count above 0 (R90). -/
theorem lossClass_eq {counts : Vector (BitVec 16) 4} {c : EventClass} (hc : lossCount counts c ≠ 0)
    (hnone : ∀ c' : EventClass, c'.toNat < c.toNat → lossCount counts c' = 0) (time : BitVec 32) :
    (RecordContent.loss counts time).cls = c := by
  have hfind : classes.find? (fun c => lossCount counts c != 0) = some c :=
    find?_of_none_before (r := fun c z => c.toNat < z.toNat) (by decide) (mem_classes c) (by simpa using hc)
      fun c' hlt => by simp [hnone c' hlt]
  rw [RecordContent.cls, hfind, Option.getD_some]

/-! ## The body -/

theorem lossTotal_eq (counts : Vector (BitVec 16) 4) : lossTotal counts =
    BitVec.ofNat 16 (min 65535 (counts[0].toNat + counts[1].toNat + counts[2].toNat + counts[3].toNat)) := by
  have hsum : (classes.map fun c => (lossCount counts c).toNat).sum =
      counts[0].toNat + (counts[1].toNat + (counts[2].toNat + (counts[3].toNat + 0))) := rfl
  rw [lossTotal, hsum, Nat.add_zero, ← Nat.add_assoc, ← Nat.add_assoc]

/-- The classes with losses: the word that a SUMMARY of a queue with these counts unreported would show (R92, 10.5). -/
theorem lossBitmap_eq (counts : Vector (BitVec 16) 4) : lossBitmap counts =
    BitVec.ofNat 16 ((if counts[0] = 0 then 0 else 1) + (if counts[1] = 0 then 0 else 2)
      + (if counts[2] = 0 then 0 else 4) + (if counts[3] = 0 then 0 else 8)) := by
  have hword := unreportedWord_eq { EventQueue.reset with unreported := counts }
  simp only [ite_not] at hword
  exact hword

/-- Settles O25: the header of `recordHeader_toNat`, and the bodies word by word. -/
theorem recordLayout : Obligations.RecordLayout := by
  unfold Obligations.RecordLayout
  intro header
  refine ⟨fun format lap e => ?_, fun format lap counts time c hc hnone => ?_, fun _ => rfl, fun lap e => ⟨?_, ?_⟩,
    fun lap counts time => ⟨?_, ?_⟩⟩
  · exact (recordHeader_toNat format lap (.event e)).trans (by rw [RecordContent.kindCode, eventCode_toNat]; rfl)
  · have hcls : (RecordContent.loss counts time).cls = c := lossClass_eq hc hnone time
    exact ⟨(recordHeader_toNat format lap (.loss counts time)).trans (by rw [hcls]; rfl), hcls⟩
  · show [e.tag, e.offset.zeroExtend 16, e.old, e.new, lowWord e.time, highWord e.time, e.count] = _
    have hoffset : e.offset.zeroExtend 16 = BitVec.ofNat 16 e.offset.toNat :=
      eq_ofNat_of_toNat (BitVec.toNat_setWidth_of_le (by decide))
    rw [lowWord_eq, highWord_eq, hoffset]
  · show [e.tag, e.new, lowWord e.time] = _
    rw [lowWord_eq]
  · show [lossTotal counts, counts[0], counts[1], counts[2], lowWord time, highWord time, counts[3]] = _
    rw [lossTotal_eq, lowWord_eq, highWord_eq]
  · show [lossTotal counts, lossBitmap counts, lowWord time] = _
    rw [lossTotal_eq, lossBitmap_eq, lowWord_eq]

end Sys2Proof.Machine
end

section
/-! PROOFS. An access of the part's own that the port does not perform (O53). -/

namespace Sys2Proof.Machine

/-- A row is the taking of an access of a claimant: where the access is presented it is taken, in state t, once the port
performs it, and otherwise the row has no effect (log 12). -/
inductive State.RowTakes (s t : State) (c : Instr) (who : Claimant) : Prop
  | presented (effect : State → State) (h : s.presentsAccess c) (hexec : exec c s = .next (t.takeInternal who effect))
  | absent (h : ¬s.presentsAccess c) (hexec : exec c s = .next s)

theorem State.RowTakes.no_effect {s t : State} {c : Instr} {who : Claimant} (h : s.RowTakes t c who)
    (hp : ¬s.presentsAccess c) : exec c s = .next s := by
  cases h with
  | presented _ h _ => exact absurd h hp
  | absent _ hexec => exact hexec

/-- A presented access that the port does not perform waits, whatever its effect would be (R134, R135). -/
theorem State.RowTakes.waits {s t : State} {c : Instr} {who : Claimant} (h : s.RowTakes t c who)
    (hp : s.presentsAccess c) (hready : ¬t.internalReady who) : exec c s = .next t.grant := by
  cases h with
  | presented effect _ hexec => rw [hexec, takeInternal_of_not_ready hready]
  | absent h _ => exact absurd hp h

/-! ## The Command Processor's accesses -/

theorem commandRead_takes (s : State) : s.RowTakes s .commandRead .processor := by
  have hexec : exec .commandRead s = execCommandRead s := rfl
  cases hc : s.proc.commandReadClaim with
  | some c =>
    obtain ⟨hclaim, hstate, hslot⟩ := commandReadClaim_some hc
    exact .presented (State.commandReadTaken c) ⟨⟨hclaim, hstate⟩, by simp [hslot]⟩
      (by simp only [hexec, execCommandRead, hc])
  | none =>
    refine .absent (fun ⟨hworks, hslot⟩ => hslot ?_) (by simp only [hexec, execCommandRead, hc])
    rwa [Processor.commandReadClaim, if_pos hworks] at hc

theorem primeRead_takes (s : State) : s.RowTakes s .primeRead .processor := by
  have hexec : exec .primeRead s = execPrimeRead s := rfl
  cases hn : s.primeReadClaim with
  | some n =>
    obtain ⟨hclaim, hstate, hpriming, c, hslot, rfl⟩ := primeReadClaim_priming hn
    exact .presented (State.primeReadTaken c.operand) ⟨⟨hclaim, hstate⟩, c, hslot, hpriming⟩
      (by simp only [hexec, execPrimeRead, hn])
  | none =>
    refine .absent (fun ⟨⟨hclaim, hstate⟩, c, hslot, hpriming⟩ => ?_) (by simp only [hexec, execPrimeRead, hn])
    simp [primeReadClaim_of_filling hclaim hstate hslot hpriming] at hn

theorem snapshotWrite_takes (s : State) : s.RowTakes s .snapshotWrite .processor := by
  have hexec : exec .snapshotWrite s = execSnapshotWrite s := rfl
  by_cases hp : s.proc.publishClaim = true
  · cases hw : s.proc.capture with
    | nil => exact .absent (fun ⟨_, hwords⟩ => hwords hw) (by simp only [hexec, execSnapshotWrite, hp, hw, if_true])
    | cons word rest =>
      exact .presented (State.snapshotWordTaken word rest) ⟨(publishClaim_iff _).1 hp, by simp [hw]⟩
        (by simp only [hexec, execSnapshotWrite, hp, hw, if_true])
  · exact .absent (fun ⟨hworks, _⟩ => hp ((publishClaim_iff _).2 hworks)) (hexec.trans (if_neg hp))

theorem completionWrite_takes (s : State) : s.RowTakes s .completionWrite .processor := by
  have hpresents : (s.proc.publishClaim && s.proc.capture.isEmpty) = true ↔ s.presentsAccess .completionWrite := by
    rw [Bool.and_eq_true, publishClaim_iff, List.isEmpty_iff]
    rfl
  by_cases hp : (s.proc.publishClaim && s.proc.capture.isEmpty) = true
  · exact .presented State.completionTaken (hpresents.1 hp) (if_pos hp)
  · exact .absent (mt hpresents.2 hp) (if_neg hp)

theorem refusalWrite_takes (s : State) : s.RowTakes s .refusalWrite .processor := by
  by_cases hp : s.proc.claim = some .refusal
  · exact .presented State.refusalTaken hp (if_pos hp)
  · exact .absent hp (if_neg hp)

theorem startupWrite_takes (s : State) : s.RowTakes s .startupWrite .processor := by
  have hexec : exec .startupWrite s = execStartupWrite s := rfl
  by_cases hp : s.proc.claim = some .work ∧ s.proc.state = .starting
  · cases hw : s.proc.startupWrites with
    | nil => exact .absent (fun ⟨_, hwrites⟩ => hwrites hw) (by rw [hexec, execStartupWrite, if_pos hp, hw])
    | cons w rest =>
      exact .presented (State.startupWriteTaken w rest) ⟨hp, by simp [hw]⟩
        (by rw [hexec, execStartupWrite, if_pos hp, hw])
  · exact .absent (fun ⟨hworks, _⟩ => hp hworks) (hexec.trans (if_neg hp))

/-! ## The Journal Writer's and the Scrubber's accesses -/

theorem recordWordWrite_takes (s : State) : s.RowTakes s .recordWordWrite .writer := by
  have hexec : exec .recordWordWrite s = execRecordWordWrite s := rfl
  cases hr : s.journal.record with
  | none => exact .absent (fun ⟨r, hsome, _⟩ => by simp [hr] at hsome) (by simp only [hexec, execRecordWordWrite, hr])
  | some r =>
    by_cases hwords : r.wordsTaken < recordWords s.journal.format
    · exact .presented (State.writeRecordWord r) ⟨r, hr, hwords⟩
        (by simp only [hexec, execRecordWordWrite, hr, if_pos hwords])
    · refine .absent (fun ⟨q, hq, hmore⟩ => hwords ?_) (by simp only [hexec, execRecordWordWrite, hr, if_neg hwords])
      rwa [Option.some.inj (hr.symm.trans hq)]

theorem publication_takes (s : State) : s.RowTakes s .publication .writer := by
  have hexec : exec .publication s = execPublication s := rfl
  cases hr : s.journal.record with
  | none => exact .absent (fun ⟨r, hsome, _⟩ => by simp [hr] at hsome) (by simp only [hexec, execPublication, hr])
  | some r =>
    by_cases hwords : r.wordsTaken < recordWords s.journal.format
    · refine .absent (fun ⟨q, hq, hall⟩ => ?_) (by simp only [hexec, execPublication, hr, if_pos hwords])
      obtain rfl : r = q := Option.some.inj (hr.symm.trans hq)
      exact absurd hwords (Nat.not_lt.2 hall)
    · exact .presented (State.publishRecord r) ⟨r, hr, Nat.not_lt.1 hwords⟩
        (by simp only [hexec, execPublication, hr, if_neg hwords])

theorem exec_installation_of_request {s : State} (hrecord : s.journal.record = none) {r : InstallRequest}
    (hr : s.journal.install = some r) :
    exec .installation s = .next (s.requestTaken.takeInternal .writer (State.install { r with taken := true })) := by
  have hexec : exec .installation s = execInstallation s := rfl
  have hinstall : s.requestTaken.journal.install = some { r with taken := true } := by
    simp only [State.requestTaken, hr, Option.map_some]
  have hnone : s.requestTaken.journal.record = none := hrecord
  simp only [hexec, execInstallation, takeInstallRequest_eq hrecord, hinstall, hnone]

/-- INSTALLATION takes its access in the state in which the request is taken (R101; log 14). -/
theorem installation_takes (s : State) : s.RowTakes s.requestTaken .installation .writer := by
  by_cases hnone : s.journal.install = none ∨ s.journal.record ≠ none
  · exact .absent (fun ⟨hrecord, hinstall⟩ => hnone.elim hinstall fun h => h hrecord) (exec_installation_of_none hnone)
  · obtain ⟨hinstall, hrecord⟩ := not_or.1 hnone
    have hidle : s.journal.record = none := not_not.1 hrecord
    obtain ⟨r, hr⟩ := Option.ne_none_iff_exists'.1 hinstall
    exact .presented (State.install { r with taken := true }) ⟨hidle, hinstall⟩ (exec_installation_of_request hidle hr)

theorem scrubRead_takes (s : State) : s.RowTakes s .scrubRead .scrubber := by
  have hexec : exec .scrubRead s = execScrubRead s := rfl
  cases hc : s.scrubber.claim with
  | some c =>
    exact .presented (State.scrubReadTaken c) (by simp [State.presentsAccess, hc])
      (by simp only [hexec, execScrubRead, hc])
  | none => exact .absent (fun h => h hc) (by simp only [hexec, execScrubRead, hc])

/-- Settles O53: each row is the taking of its access, from the state in which an install request is taken for
INSTALLATION and from the state itself for every other row. -/
theorem ungrantedAccessWaits : Obligations.UngrantedAccessWaits := by
  intro c who s hrow
  have htakes : s.RowTakes (if c = .installation then s.requestTaken else s) c who := by
    simp only [List.mem_cons, Prod.mk.injEq, List.not_mem_nil, or_false] at hrow
    rcases hrow with ⟨rfl, rfl⟩ | ⟨rfl, rfl⟩ | ⟨rfl, rfl⟩ | ⟨rfl, rfl⟩ | ⟨rfl, rfl⟩ | ⟨rfl, rfl⟩ | ⟨rfl, rfl⟩ |
      ⟨rfl, rfl⟩ | ⟨rfl, rfl⟩ | ⟨rfl, rfl⟩
    · exact commandRead_takes s
    · exact primeRead_takes s
    · exact snapshotWrite_takes s
    · exact completionWrite_takes s
    · exact refusalWrite_takes s
    · exact startupWrite_takes s
    · exact recordWordWrite_takes s
    · exact publication_takes s
    · exact installation_takes s
    · exact scrubRead_takes s
  exact ⟨htakes.no_effect, htakes.waits⟩

end Sys2Proof.Machine
end

section
/-! PROOFS. Commands written to COMMAND that begin no request: the reading commands and BADOP (O29), the refusals with
BUSY (O36) and PARTIAL (O37), and the one claim of the processor (O38). -/

namespace Sys2Proof.Machine

/-! ## The processor's one claim -/

theorem refusalWaits_iff (p : Processor) :
    p.refusalWaits = true ↔ p.pendingRefusal ≠ none ∧ StartupWrite.refusal ∉ p.startupWrites := by
  simp [Processor.refusalWaits, Processor.refusalInStartup, Option.isSome_iff_ne_none]

theorem workWaits_iff (p : Processor) :
    p.workWaits = true ↔ (p.state = .starting ∧ p.startupWrites ≠ []) ∨ p.state = .reading ∨ p.state = .filling ∨
      p.state = .publishing := by
  cases hs : p.state <;> simp [Processor.workWaits, hs]

theorem present_of_claim {p : Processor} (h : p.claim ≠ none) : p.present = p :=
  if_pos (Option.isSome_iff_ne_none.2 h)

theorem present_of_none {p : Processor} (h : p.claim = none) : p.present = { p with claim := p.nextClaim } :=
  if_neg (by simp [h])

/-- Settles O38: the branches of `nextClaim`, in their order. -/
theorem refusalIsClaimedFirst : Obligations.RefusalIsClaimedFirst := by
  intro p refusal work
  have hrefusal : p.refusalWaits = true ↔ refusal := refusalWaits_iff p
  have hwork : p.workWaits = true ↔ work := workWaits_iff p
  refine ⟨present_of_claim, fun hn hr => ?_, fun hn hr hw => ?_, fun hn hr hw => ?_⟩ <;>
    rw [present_of_none hn, Processor.nextClaim]
  · rw [if_pos (hrefusal.2 hr)]
  · rw [if_neg (mt hrefusal.1 hr), if_pos (hwork.2 hw)]
  · rw [if_neg (mt hrefusal.1 hr), if_neg (mt hwork.1 hw), ← hn]

/-! ## Commands that begin at IDLE -/

theorem hostTaking_evaluated_proc (s : State) (w : HostWrite) : (s.hostTaking.evaluated w).proc = s.proc :=
  (evaluated_proc _ w).trans (hostTaking_proc s)

/-- A command row is the write of its command word (R110). -/
theorem exec_of_commandFields {c : Instr} {k : CommandSlot} (h : commandFields c = some k) (s : State) :
    exec c s = .next (s.takeCommandWrite k.opcode k.operand k.tag) := by
  cases c <;> cases h <;> rfl

/-- A reading command taken at IDLE, in the act of its write (R111, R114). -/
theorem takeCommandWrite_reading {s : State} (h : s.hostReady) (hs : s.proc.state = .idle) {op : Opcode} (h0 : op ≠ 0)
    (h15 : op ≠ 15) (n : Index) (tag : CommandTag)
    (hcommand : ∀ t : State, t.takeCommand ⟨op, n, tag⟩ = t.beginReading ⟨op, n, tag⟩) :
    s.takeCommandWrite op n tag = { s.commandJudged op n tag with
      proc := Processor.present { s.proc with
        state := .reading, slot := some ⟨op, n, tag⟩, readWords := [], result := none, capture := [] } } := by
  rw [takeCommandWrite_of_idle h hs h0 h15, hcommand, commandJudged_eq, ← hostTaking_evaluated_proc s]
  rfl

/-- An opcode above 10 names no command (R125). -/
theorem takeCommand_badop (s : State) {c : CommandSlot} (h : 11 ≤ c.opcode.toNat) :
    s.takeCommand c = s.beginPublishing c .badop [] := by
  unfold State.takeCommand
  split
  case h_11 => rfl
  all_goals omega

/-- Settles O29: `beginReading` for the reading commands, and `beginPublishing` with BADOP. -/
theorem commandsBeginAtIdle : Obligations.CommandsBeginAtIdle := by
  intro n tag s h hs
  refine ⟨fun c op hc => ?_, fun op hlo hhi => ?_⟩
  · obtain ⟨hfields, h0, h15, hcommand⟩ : commandFields c = some ⟨op, n, tag⟩ ∧ op ≠ 0 ∧ op ≠ 15 ∧
        ∀ t : State, t.takeCommand ⟨op, n, tag⟩ = t.beginReading ⟨op, n, tag⟩ := by
      simp only [List.mem_cons, Prod.mk.injEq, List.not_mem_nil, or_false] at hc
      rcases hc with ⟨rfl, rfl⟩ | ⟨rfl, rfl⟩ | ⟨rfl, rfl⟩ | ⟨rfl, rfl⟩ | ⟨rfl, rfl⟩ <;>
        exact ⟨rfl, by decide, by decide, fun _ => rfl⟩
    rw [exec_of_commandFields hfields, takeCommandWrite_reading h hs h0 h15 n tag hcommand]
  · have h0 : op ≠ 0 := by rintro rfl; simp at hlo
    have h15 : op ≠ 15 := by rintro rfl; simp at hhi
    exact congrArg Host.Outcome.next (takeCommandWrite_request h hs h0 h15 n tag (request := fun t => (t, .badop))
      (fun t => takeCommand_badop t hlo) fun _ => rfl)

/-! ## Refusals -/

/-- A COMPLETION or REFUSAL word has the layout of a command word, the code in the operand's place (10.2). -/
theorem resultWord_eq (op : Opcode) (tag : CommandTag) (code : BitVec 6) :
    resultWord op tag code = BitVec.ofNat 16 (tag.toNat * 1024 + code.toNat * 16 + op.toNat) :=
  eq_ofNat_of_toNat (commandWord_toNat op code tag)

/-- A write to COMMAND that is refused, in its act (R112). -/
theorem meetTake_refuse (s t : State) (w : Word) (r : ResultCode) :
    s.meetTake (t.refuse w r) = { s.meetTake t with
      proc := Processor.present { t.proc with
        pendingRefusal := some (resultWord (opcodeOf w) (tagOf w) r.code) } } := rfl

/-- A command from opcode 1 to 14 written while the processor is not IDLE is refused with BUSY (R110). -/
theorem takeCommandWrite_busy {s : State} (h : s.hostReady) (hs : s.proc.state ≠ .idle) {op : Opcode} (h0 : op ≠ 0)
    (h15 : op ≠ 15) (n : Index) (tag : CommandTag) :
    s.takeCommandWrite op n tag = { s.commandJudged op n tag with
      proc := Processor.present { s.proc with pendingRefusal := some (resultWord op tag ResultCode.busy.code) } } := by
  have hexamine : ∀ t : State, t.proc = s.proc →
      t.examine Lanes.both (commandWord op n tag) = t.refuse (commandWord op n tag) .busy := fun t ht => by
    simp only [State.examine, anyLane, isFull, Lanes.both, Bool.or_self, Bool.and_self, Bool.not_true,
      Bool.false_eq_true, if_false, opcodeOf_commandWord, h0, h15, ht, if_neg hs]
  rw [takeCommandWrite_of_ready h, hexamine _ (hostTaking_evaluated_proc s _), meetTake_refuse,
    hostTaking_evaluated_proc, opcodeOf_commandWord, tagOf_commandWord, commandJudged_eq]

/-- Settles O36: the last branch of `examine`. -/
theorem busyRefusesCommands : Obligations.BusyRefusesCommands := by
  intro c k s h hs hc hlo hhi
  have h0 : k.opcode ≠ 0 := fun hop => by simp [hop] at hlo
  have h15 : k.opcode ≠ 15 := fun hop => by simp [hop] at hhi
  rw [exec_of_commandFields hc, takeCommandWrite_busy h hs h0 h15, resultWord_eq]
  rfl

/-- A write of some lanes to COMMAND at a ready port: it is examined after the entries have judged it (R40, R110). -/
theorem takeHostWrite_command {s : State} (h : s.hostReady) {lanes : Lanes} (hlane : anyLane lanes = true) (data : Word) :
    s.takeHostWrite ⟨s.cb Config.cbCommand, lanes, data⟩ = s.hostTaking.meetTake
      ((s.hostTaking.evaluated ⟨s.cb Config.cbCommand, lanes, data⟩).examine lanes data) := by
  have hne := cbCommand_ne_cbConsume s.hostTaking
  rw [takeHostWrite_of_ready h, ← hostTaking_cb]
  simp only [State.hostWriteTaken, State.announceWrite, hlane, Bool.not_true, Bool.false_eq_true, if_false, if_neg hne,
    if_true]
  rfl

/-- A byte write to COMMAND is refused with the word of its one lane (R112). -/
theorem examine_partial (s : State) {lanes : Lanes} (hlane : anyLane lanes = true) (hfull : isFull lanes = false)
    (data : Word) : s.examine lanes data = s.refuse (partialCommand lanes data) .partialWrite := by
  simp only [State.examine, hlane, hfull, Bool.not_true, Bool.not_false, Bool.false_eq_true, if_false, if_true]

theorem examine_zero (s : State) {data : Word} (h : opcodeOf data = 0) : s.examine ⟨true, true⟩ data = s := by
  simp only [State.examine, anyLane, isFull, Bool.or_self, Bool.and_self, Bool.not_true, Bool.false_eq_true, if_false, h,
    if_true]

theorem opcodeOf_toNat (w : Word) : (opcodeOf w).toNat = w.toNat % 16 := by
  simp [opcodeOf, BitVec.extractLsb'_toNat]

theorem tagOf_toNat (w : Word) : (tagOf w).toNat = w.toNat / 1024 := by
  have := w.isLt
  simp only [tagOf, BitVec.extractLsb'_toNat, Nat.shiftRight_eq_div_pow]
  omega

theorem lowerByte_toNat (w : Word) : (lowerByte w).toNat = w.toNat % 256 := by
  simp [lowerByte, BitVec.extractLsb'_toNat]

theorem upperByte_toNat (w : Word) : (upperByte w).toNat = w.toNat / 256 := by
  have := w.isLt
  simp only [upperByte, BitVec.extractLsb'_toNat, Nat.shiftRight_eq_div_pow]
  omega

/-- The word of a byte write to COMMAND (R112): the written byte in its lane. -/
theorem partialCommand_toNat (lanes : Lanes) (data : Word) : (partialCommand lanes data).toNat =
    (if lanes.upper then data.toNat / 256 else 0) * 256 + if lanes.lower then data.toNat % 256 else 0 := by
  have hupper : upperByte 0 = 0 := rfl
  have hlower : lowerByte 0 = 0 := rfl
  rw [partialCommand, mergeLanes, joinBytes, append_toNat, hupper, hlower, ← lowerByte_toNat, ← upperByte_toNat]
  cases lanes.lower <;> cases lanes.upper <;> rfl

/-- Settles O37: the branches of `examine` before the opcode's. -/
theorem partialAndZeroCommands : Obligations.PartialAndZeroCommands := by
  intro lanes data s h b partialRefusal
  have hrefused : ∀ {opcode tag : Nat}, anyLane lanes = true → isFull lanes = false →
      (partialCommand lanes data).toNat % 16 = opcode → (partialCommand lanes data).toNat / 1024 = tag →
      partialRefusal opcode tag := fun {opcode tag} hlane hfull hop htag => by
    have hexec : exec (.hostWrite (s.cb 0x000) lanes data) s = .next (s.hostTaking.meetTake
        ((s.hostTaking.evaluated ⟨s.cb Config.cbCommand, lanes, data⟩).refuse (partialCommand lanes data)
          .partialWrite)) := by
      rw [← examine_partial _ hlane hfull, ← takeHostWrite_command h hlane]
      rfl
    show exec _ s = _
    rw [hexec, meetTake_refuse, hostTaking_evaluated_proc, resultWord_eq, opcodeOf_toNat, tagOf_toNat, hop, htag]
    rfl
  refine ⟨?_, ?_, ?_⟩
  · rintro rfl
    refine hrefused rfl rfl ?_ ?_ <;> simp only [partialCommand_toNat, if_true, Bool.false_eq_true, if_false] <;> omega
  · rintro rfl
    refine hrefused rfl rfl ?_ ?_ <;> simp only [partialCommand_toNat, if_true, Bool.false_eq_true, if_false] <;> omega
  · rintro rfl hop
    have hzero : opcodeOf data = 0 := BitVec.eq_of_toNat_eq ((opcodeOf_toNat data).trans hop)
    show Host.Outcome.next (s.takeHostWrite ⟨s.cb Config.cbCommand, ⟨true, true⟩, data⟩) = _
    rw [takeHostWrite_command h rfl, examine_zero _ hzero]
    rfl

end Sys2Proof.Machine
end

section
/-! PROOFS. The reads of a command: one that is not the last (O39), and the last of a JOURNAL (O44) and of a TIMEBASE
(O45). -/

namespace Sys2Proof.Machine

/-- A read of a command that is not its last (R114): the word is kept, and the processor presents its next claim. -/
theorem commandRead_next {s : State} {c : CommandSlot} {earlier later : List Nat} {offset : Nat}
    (h : s.readsNext c earlier offset later) (hlater : later ≠ []) :
    exec .commandRead s = .next ((s.afterRead offset).setProc (s.afterRead offset).proc) := by
  obtain ⟨hready, hclaim, hstate, hslot, hreads, hlen⟩ := h
  have hc : s.proc.commandReadClaim = some c := by simp [Processor.commandReadClaim, hclaim, hstate, hslot]
  have hoffset : readOffset c s.proc.readWords.length = offset :=
    readOffset_of_getElem? (by rw [hreads, ← hlen]; simp)
  have hmore : s.proc.readWords.length + 1 < wordsToRead c.opcode := by
    have := List.length_pos_iff.2 hlater
    rw [← commandReads_length, hreads, ← hlen]
    simp only [List.length_append, List.length_cons]
    omega
  have hexec : exec .commandRead s = .next (s.internalTaking.commandReadTaken c) := by
    show execCommandRead s = _
    simp only [execCommandRead, hc, takeInternal_of_ready hready]
  rw [hexec, State.afterRead, internalTaking_eq]
  simp only [State.commandReadTaken, List.length_append, List.length_singleton, if_pos hmore, hoffset]
  rfl

/-- Settles O39: the first branch of `commandReadTaken`. -/
theorem commandReadKeepsWord : Obligations.CommandReadKeepsWord := fun _ _ _ _ _ h hlater => commandRead_next h hlater

/-! ## TIMEBASE -/

theorem finishTimebase_eq (s : State) (divisor interval : Word) :
    s.finishTimebase [divisor, interval] =
      if divisor = 0 then s.publish .baddesc else (s.acceptTimebase divisor interval).publish .done := rfl

/-- Settles O45: the two branches of `finishTimebase`. -/
theorem timebaseHandsDivisor : Obligations.TimebaseHandsDivisor := by
  intro c earlier offset divisor interval s h hop hwords b
  obtain ⟨-, -, -, hqueue, -, htime, -⟩ := afterRead_frame s offset
  have hscrub : b.scrubber = s.scrubber := by
    show (s.afterRead offset).scrubber = _
    rw [State.afterRead, internalTaking_eq]
  have hexec : exec .commandRead s = .next (s.meetTake (b.finishTimebase [divisor, interval])) := by
    rw [commandRead_last h, hwords]
    simp only [State.finishReading, hop]
    rfl
  rw [hexec, finishTimebase_eq]
  refine ⟨fun h0 => ?_, fun h0 => ?_⟩
  · rw [if_pos h0, meetTake_publish hqueue]
  · have hrunning : decide (interval ≠ 0) = (interval != 0) := by simp [bne, beq_eq_decide]
    rw [if_neg h0, meetTake_publish (b := b.acceptTimebase _ _) hqueue, hrunning, ← htime, ← hscrub]
    rfl

/-! ## JOURNAL -/

/-- The bits of CB + 005h outside bits 8 and 3 to 0 (R122). -/
theorem spareBits_eq (w : Word) :
    w &&& 0xFEF0#16 = (w.extractLsb' 9 7 ++ 0#1 ++ w.extractLsb' 4 4 ++ 0#4 : BitVec (7 + 1 + 4 + 4)) := by
  apply BitVec.eq_of_getLsbD_eq
  intro i hi
  show _ = BitVec.getLsbD (w.extractLsb' 9 7 ++ 0#1 ++ w.extractLsb' 4 4 ++ 0#4 : BitVec (7 + 1 + 4 + 4)) i
  simp only [BitVec.getLsbD_and, BitVec.getLsbD_append, BitVec.getLsbD_extractLsb']
  interval_cases i <;> simp

theorem journalSpareSet_iff (w0 w1 w2 w3 : Word) :
    journalSpareSet [w0, w1, w2, w3] = true ↔ w1.toNat / 512 ≠ 0 ∨ w1.toNat / 16 % 16 ≠ 0 := by
  have := w1.isLt
  have hword : wordAt [w0, w1, w2, w3] 1 = w1 := rfl
  have hzero : (0 : Word).toNat = 0 := rfl
  rw [journalSpareSet, hword, spareBits_eq, bne_iff_ne, BitVec.toNat_ne, hzero]
  simp only [append_toNat, BitVec.extractLsb'_toNat, Nat.shiftRight_eq_div_pow, BitVec.toNat_ofNat]
  omega

/-- The install request that four words spell (10.4). -/
theorem installRequestOf_eq (w0 w1 w2 w3 : Word) :
    installRequestOf [w0, w1, w2, w3] =
      { base := BitVec.ofNat 20 (w0.toNat + 65536 * (w1.toNat % 16))
        length := w2.toNat
        format := if w1.toNat / 256 % 2 = 1 then .full else .compact
        threshold := if w2.toNat = 0 then 0 else w3.toNat
        taken := false } := by
  have hbase : (w1.extractLsb' 0 4 ++ w0 : BitVec (4 + 16)) = BitVec.ofNat 20 (w0.toNat + 65536 * (w1.toNat % 16)) := by
    have := w0.isLt
    apply BitVec.eq_of_toNat_eq
    simp only [append_toNat, BitVec.extractLsb'_toNat, BitVec.toNat_ofNat, Nat.shiftRight_zero]
    omega
  have hbit : (w1.getLsbD 8 = true) = (w1.toNat / 256 % 2 = 1) := by
    rw [BitVec.getLsbD, Nat.testBit_eq_decide_div_mod_eq, decide_eq_true_eq]
  have hwords : wordAt [w0, w1, w2, w3] 0 = w0 ∧ wordAt [w0, w1, w2, w3] 1 = w1 ∧ wordAt [w0, w1, w2, w3] 2 = w2 ∧
      wordAt [w0, w1, w2, w3] 3 = w3 := ⟨rfl, rfl, rfl, rfl⟩
  obtain ⟨h0, h1, h2, h3⟩ := hwords
  simp only [installRequestOf, h0, h1, h2, h3, hbase, hbit]

/-- A ring of illegal length or threshold, or that does not lie in memory (R84, R122). -/
def InstallRequest.illegal (r : InstallRequest) : Prop :=
  (r.length ≠ 0 ∧ (r.length < 4 ∨ 4096 < r.length)) ∨
    (0 < r.length ∧ (r.threshold < 1 ∨ r.length < r.threshold)) ∨
    (0 < r.length ∧ 0xFFFFF < r.base.toNat + r.length * recordWords r.format - 1)

/-- A ring that holds a word of the control block or a watched word (R122). -/
def State.ringOverlaps (s : State) (r : InstallRequest) : Prop :=
  let inRing := fun x => r.base.toNat ≤ x ∧ x < r.base.toNat + r.length * recordWords r.format
  (∃ x, inRing x ∧ (s.cb 0).toNat ≤ x ∧ x < (s.cb 0).toNat + Config.cbWords) ∨
    ∃ (x : Nat) (n : Index), inRing x ∧ (s.entry n).state ≠ .free ∧ (s.entry n).base.toNat ≤ x ∧
      x < (s.entry n).base.toNat + (s.entry n).span.toNat

/-- The checks of a JOURNAL by their codes: those of its descriptor before those of its place (R122). -/
theorem journalCheck_eq (s : State) (ws : List Word) :
    let r := installRequestOf ws
    let words := r.length * recordWords r.format
    s.journalCheck ws =
      if journalSpareSet ws = true ∨ (r.length ≠ 0 ∧ (r.length < 4 ∨ 4096 < r.length)) ∨
          (0 < r.length ∧ (r.threshold < 1 ∨ r.length < r.threshold)) ∨
          (0 < r.length ∧ 0xFFFFF < r.base.toNat + words - 1) then some .baddesc
      else if runsMeet r.base.toNat words (s.cb 0).toNat Config.cbWords = true ∨
          entryNumbers.any (fun n => (s.entry n).state != .free &&
            runsMeet r.base.toNat words (s.entry n).base.toNat (s.entry n).span.toNat) = true then some .overlap
      else none := by
  simp only [State.journalCheck, ite_or]

/-- Some entry that is not FREE watches a word of a run (R122). -/
theorem anyWatched_iff (s : State) (first count : Nat) :
    entryNumbers.any (fun n => (s.entry n).state != .free &&
        runsMeet first count (s.entry n).base.toNat (s.entry n).span.toNat) = true ↔
      ∃ (x : Nat) (n : Index), (first ≤ x ∧ x < first + count) ∧ (s.entry n).state ≠ .free ∧
        (s.entry n).base.toNat ≤ x ∧ x < (s.entry n).base.toNat + (s.entry n).span.toNat := by
  simp only [List.any_eq_true, Bool.and_eq_true, bne_iff_ne, runsMeet_iff]
  constructor
  · rintro ⟨n, -, hn, x, hlo, hhi, hb, he⟩
    exact ⟨x, n, ⟨hlo, hhi⟩, hn, hb, he⟩
  · rintro ⟨x, n, ⟨hlo, hhi⟩, hn, hb, he⟩
    exact ⟨n, mem_entryNumbers n, hn, x, hlo, hhi, hb, he⟩

theorem journalCheck_baddesc (s : State) {ws : List Word}
    (h : journalSpareSet ws = true ∨ (installRequestOf ws).illegal) : s.journalCheck ws = some .baddesc :=
  (journalCheck_eq s ws).trans (if_pos h)

theorem ringOverlaps_iff (s : State) (r : InstallRequest) :
    runsMeet r.base.toNat (r.length * recordWords r.format) (s.cb 0).toNat Config.cbWords = true ∨
        entryNumbers.any (fun n => (s.entry n).state != .free &&
          runsMeet r.base.toNat (r.length * recordWords r.format) (s.entry n).base.toNat (s.entry n).span.toNat) = true ↔
      s.ringOverlaps r := by
  rw [anyWatched_iff, runsMeet_iff]
  simp only [State.ringOverlaps, and_assoc]

/-- The place of a legal ring is checked last (R122). -/
theorem journalCheck_overlap {s : State} {ws : List Word}
    (h : ¬(journalSpareSet ws = true ∨ (installRequestOf ws).illegal)) (ho : s.ringOverlaps (installRequestOf ws)) :
    s.journalCheck ws = some .overlap :=
  (journalCheck_eq s ws).trans ((if_neg h).trans (if_pos ((ringOverlaps_iff s _).2 ho)))

theorem journalCheck_passes {s : State} {ws : List Word}
    (h : ¬(journalSpareSet ws = true ∨ (installRequestOf ws).illegal)) (ho : ¬s.ringOverlaps (installRequestOf ws)) :
    s.journalCheck ws = none :=
  (journalCheck_eq s ws).trans ((if_neg h).trans (if_neg (mt (ringOverlaps_iff s _).1 ho)))

/-- Settles O44: the two groups of checks of `journalCheck_eq`, and then `finishJournal`. -/
theorem journalChecksThenWaits : Obligations.JournalChecksThenWaits := by
  intro c earlier offset w0 w1 w2 w3 s h hop hwords b fails base format words spare baddesc ringWord cb overlap
  obtain ⟨he, -, -, hqueue, hj, -, hcb⟩ := afterRead_frame s offset
  have hexec : exec .commandRead s = .next (s.meetTake (b.finishJournal [w0, w1, w2, w3])) := by
    rw [commandRead_last h, hwords]
    simp only [State.finishReading, hop]
    rfl
  have hfail : ∀ r, b.journalCheck [w0, w1, w2, w3] = some r → fails r := fun r hr => by
    show exec .commandRead s = _
    rw [hexec, State.finishJournal, hr]
    exact congrArg Host.Outcome.next (meetTake_publish hqueue r)
  have hring : installRequestOf [w0, w1, w2, w3] =
      { base := BitVec.ofNat 20 base, length := w2.toNat, format := format
        threshold := if w2.toNat = 0 then 0 else w3.toNat, taken := false } := installRequestOf_eq w0 w1 w2 w3
  have hbase : (BitVec.ofNat 20 base).toNat = base := by
    have := w0.isLt
    rw [BitVec.toNat_ofNat]
    omega
  have hbad : journalSpareSet [w0, w1, w2, w3] = true ∨ (installRequestOf [w0, w1, w2, w3]).illegal ↔ baddesc := by
    rw [journalSpareSet_iff, hring]
    simp only [InstallRequest.illegal, hbase, recordWords_eq]
    dsimp only [baddesc, spare]
    split <;> omega
  have hoverlap : b.ringOverlaps (installRequestOf [w0, w1, w2, w3]) ↔ overlap := by
    have hplace : (b.cb 0).toNat = cb := by rw [cb_toNat b (by norm_num), Nat.add_zero, hcb]
    have hentry : ∀ n, b.entry n = s.entry n := entry_of_entries he
    rw [hring]
    simp only [State.ringOverlaps, hbase, recordWords_eq, hplace, hentry, Config.cbWords]
    refine or_congr_left (exists_congr fun x => and_congr_right fun _ => ?_)
    omega
  refine ⟨fun hb => hfail _ (journalCheck_baddesc b (hbad.2 hb)),
    fun hb ho => hfail _ (journalCheck_overlap (mt hbad.1 hb) (hoverlap.2 ho)), fun hb ho => ?_⟩
  rw [hexec, State.finishJournal, journalCheck_passes (mt hbad.1 hb) (mt hoverlap.1 ho)]
  dsimp only
  rw [hring, ← hj]
  exact congrArg Host.Outcome.next (meetTake_eq_self hqueue)

end Sys2Proof.Machine
end

section
/-! PROOFS. The Command Processor's writes: SNAPSHOT (O47), COMPLETION (O48), REFUSAL (O49) and the start-up writes
(O50). -/

namespace Sys2Proof.Machine

/-! ## A write of the processor's own -/

/-- A write of the processor's own to the control block, as one act: the word, and the processor after it with its next
claim presented (R108, R134). -/
def State.ownWrite (s : State) (offset : Nat) (v : Word) (p : Processor) : State :=
  (s.writeWord (s.cb offset) v).setProc p

theorem snapshotWordTaken_eq (word : Nat × Word) (rest : List (Nat × Word)) (s : State) :
    s.snapshotWordTaken word rest = s.ownWrite word.1 word.2 { s.proc with claim := none, capture := rest } := rfl

theorem completionTaken_eq (s : State) :
    s.completionTaken = s.ownWrite 0x010 s.proc.completionWord
      { s.proc with claim := none, state := .idle, slot := none, readWords := [], result := none } := rfl

theorem refusalTaken_eq (s : State) :
    s.refusalTaken = s.ownWrite 0x011 (s.proc.pendingRefusal.getD 0)
      { s.proc with claim := none, pendingRefusal := none } := rfl

theorem startupWriteTaken_eq (w : StartupWrite) (rest : List StartupWrite) (s : State) :
    s.startupWriteTaken w rest =
      s.ownWrite (s.proc.startupWord w).1 (s.proc.startupWord w).2 (s.proc.afterStartup w rest) := rfl

/-- A write of the processor's own that the port performs stores its word, and changes the processor, the port and
memory only. -/
theorem ownWrite_stores {s : State} {c : Instr} {offset : Nat} {v : Word} {p : Processor}
    (hexec : exec c s = .next (s.internalTaking.ownWrite offset v p)) :
    ∃ t, exec c s = .next t ∧ t = { s.internalTaking with mem := t.mem, proc := p.present } ∧
      storesWord s.mem t.mem (s.cb offset) v := by
  refine ⟨_, hexec, rfl, ?_⟩
  rw [internalTaking_eq]
  exact writeWord_storesWord s.mem (s.cb offset) v

/-- Settles O47: the next captured word is an own write. -/
theorem snapshotWritesCapture : Obligations.SnapshotWritesCapture := by
  intro offset word rest s hready hclaim hstate hcapture
  have hpublish : s.proc.publishClaim = true := (publishClaim_iff _).2 ⟨hclaim, hstate⟩
  refine ownWrite_stores ?_
  show execSnapshotWrite s = _
  simp only [execSnapshotWrite, hpublish, hcapture, if_true, takeInternal_of_ready hready]
  rw [snapshotWordTaken_eq, internalTaking_proc]

theorem completionWord_eq {p : Processor} {c : CommandSlot} {r : ResultCode} (hslot : p.slot = some c)
    (hresult : p.result = some r) : p.completionWord = resultWord c.opcode c.tag r.code := by
  simp only [Processor.completionWord, hslot, hresult]

/-- Settles O48: the COMPLETION write is an own write of `completionWord`. -/
theorem completionEndsCommand : Obligations.CompletionEndsCommand := by
  intro c r s hready hclaim hstate hcapture hslot hresult code
  have hcode : r.code.toNat = code := by
    dsimp only [code]
    cases r <;> rfl
  have hpublish : (s.proc.publishClaim && s.proc.capture.isEmpty) = true := by
    rw [(publishClaim_iff _).2 ⟨hclaim, hstate⟩, hcapture]
    rfl
  rw [← hcode, ← resultWord_eq, ← completionWord_eq hslot hresult]
  refine ownWrite_stores ?_
  show execCompletionWrite s = _
  rw [execCompletionWrite, if_pos hpublish, takeInternal_of_ready hready, completionTaken_eq, internalTaking_proc]

/-- Settles O49: the REFUSAL write is an own write of the pending refusal. -/
theorem refusalWriteEmptiesPending : Obligations.RefusalWriteEmptiesPending := by
  intro word s hready hclaim hpending
  refine ownWrite_stores ?_
  show execRefusalWrite s = _
  rw [execRefusalWrite, if_pos hclaim, takeInternal_of_ready hready, refusalTaken_eq, internalTaking_proc, hpending,
    Option.getD_some]

/-! ## The start-up writes -/

/-- The processor after a start-up write, field by field (R107, R109, R127). -/
theorem afterStartup_eq {p : Processor} (hs : p.state = .starting) (w : StartupWrite) (rest : List StartupWrite) :
    p.afterStartup w rest = { p with
      claim := none
      startupWrites := rest
      state := if rest = [] then .idle else .starting
      pendingRefusal := if w = .refusal then none else p.pendingRefusal
      restartTag := if rest = [] then none else p.restartTag
      owedAborted := if rest = [] ∨ w = .aborted then none else p.owedAborted } := by
  cases rest <;> cases w <;> simp [Processor.afterStartup, hs]

/-- The words of the start-up writes that carry a value (R109, R127, 10.2). -/
theorem startupWord_refusal {p : Processor} {v : Word} (h : p.pendingRefusal = some v) :
    p.startupWord .refusal = (0x011, v) := by
  rw [Processor.startupWord, h]
  rfl

theorem startupWord_aborted {p : Processor} {c : OwedAborted} (h : p.owedAborted = some c) :
    p.startupWord .aborted = (0x010, BitVec.ofNat 16 (c.tag.toNat * 1024 + 0x0A * 16 + c.opcode.toNat)) := by
  rw [Processor.startupWord, h]
  exact congrArg (Prod.mk _) (resultWord_eq c.opcode c.tag _)

theorem startupWord_presence (p : Processor) :
    p.startupWord .presence = (0x013, BitVec.ofNat 16 (p.startCount.toNat * 256 + 1)) :=
  congrArg (Prod.mk _) (eq_ofNat_of_toNat (append_toNat p.startCount Config.revision))

theorem startupWord_restartDone {p : Processor} {tag : CommandTag} (h : p.restartTag = some tag) :
    p.startupWord .restartDone = (0x010, BitVec.ofNat 16 (tag.toNat * 1024 + 0x01 * 16 + 15)) := by
  rw [Processor.startupWord, h]
  exact congrArg (Prod.mk _) (resultWord_eq 15 tag _)

/-- A start-up write is an own write of its word (R109, R127). -/
theorem exec_startupWrite_of {s : State} (hready : s.internalReady .processor) (hclaim : s.proc.claim = some .work)
    (hs : s.proc.state = .starting) {w : StartupWrite} {rest : List StartupWrite}
    (hw : s.proc.startupWrites = w :: rest) :
    exec .startupWrite s = .next (s.internalTaking.ownWrite (s.proc.startupWord w).1 (s.proc.startupWord w).2
      (s.proc.afterStartup w rest)) := by
  show execStartupWrite s = _
  rw [execStartupWrite, if_pos ⟨hclaim, hs⟩, hw]
  dsimp only
  rw [takeInternal_of_ready hready, startupWriteTaken_eq, internalTaking_proc]

/-- Settles O50: each start-up write is an own write of the word that `startupWord` gives it. -/
theorem startupWritesInOrder : Obligations.StartupWritesInOrder := by
  intro w rest s hready hclaim hs hw _
  obtain ⟨t, hexec, hnext, hstores⟩ := ownWrite_stores (exec_startupWrite_of hready hclaim hs hw)
  rw [afterStartup_eq hs] at hnext
  have hstored : ∀ {offset v}, s.proc.startupWord w = (offset, v) → storesWord s.mem t.mem (s.cb offset) v :=
    fun hword => by rwa [hword] at hstores
  refine ⟨t, hexec, hnext, ?_⟩
  cases w with
  | zeroCompletion => exact hstored rfl
  | refusal => exact fun v hv => hstored (startupWord_refusal hv)
  | aborted => exact fun c hc => hstored (startupWord_aborted hc)
  | presence => exact hstored (startupWord_presence s.proc)
  | produce => exact hstored rfl
  | restartDone => exact fun tag htag => hstored (startupWord_restartDone htag)

end Sys2Proof.Machine
end

section
/-! PROOFS. Every command answers a next state, with the queue of commands and the straps last sampled as they were
(O2). -/

namespace Sys2Proof.Machine

/-- From state s to state t the queue of commands and the straps last sampled stay as they are (R106). -/
structure State.Steady (s t : State) : Prop where
  pending : t.pending = s.pending
  cbsel : t.proc.cbsel = s.proc.cbsel

theorem State.Steady.refl (s : State) : s.Steady s := ⟨rfl, rfl⟩

theorem State.Steady.trans {s t u : State} (h : s.Steady t) (k : t.Steady u) : s.Steady u :=
  ⟨k.pending.trans h.pending, k.cbsel.trans h.cbsel⟩

theorem steady_of_proc {s t : State} (hq : t.pending = s.pending) (hp : t.proc = s.proc) : s.Steady t := ⟨hq, by rw [hp]⟩

theorem State.Steady.setProc {s t : State} (h : s.Steady t) {p : Processor} (hp : p.cbsel = t.proc.cbsel) :
    s.Steady (t.setProc p) := ⟨h.pending, (setProc_cbsel t p).trans (hp.trans h.cbsel)⟩

theorem setProc_steady {s t : State} {p : Processor} (hq : t.pending = s.pending) (hp : p.cbsel = s.proc.cbsel) :
    s.Steady (t.setProc p) := ⟨hq, (setProc_cbsel t p).trans hp⟩

/-! ## The port -/

theorem grant_steady (s : State) : s.Steady s.grant := steady_of_proc s.grant_pending s.grant_proc

/-- An internal access that keeps both when it is taken keeps both where it waits, too. -/
theorem takeInternal_steady (s : State) (c : Claimant) {f : State → State} (hf : ∀ t : State, t.Steady (f t)) :
    s.Steady (s.takeInternal c f) := by
  have hfree : s.Steady s.grant.freePort := (grant_steady s).trans (steady_of_proc rfl rfl)
  unfold State.takeInternal
  dsimp only
  split
  · exact hfree.trans (hf _)
  · exact grant_steady s

theorem forward_steady (s : State) (access : HostAccess) : s.Steady (s.forward access) := by
  cases access <;> exact steady_of_proc rfl rfl

theorem present_steady (s : State) (access : HostAccess) : s.Steady (s.present access) := by
  have hwaits : s.Steady { s with port := { s.port with hostWaiting := some access, wait := true } } :=
    steady_of_proc rfl rfl
  exact hwaits.trans (grant_steady _)

/-! ## Host writes -/

theorem evaluate_steady (s : State) (w : HostWrite) : s.Steady (s.evaluate w) :=
  steady_of_proc (s.evaluate_pending w) (s.evaluate_proc w)

theorem takeConsume_steady (s : State) (lanes : Lanes) (data : Word) : s.Steady (s.takeConsume lanes data) := by
  unfold State.takeConsume
  dsimp only
  split <;> exact steady_of_proc rfl rfl

theorem consumeAndEvaluate_steady (s : State) (w : HostWrite) : s.Steady (s.consumeAndEvaluate w) := by
  refine steady_of_proc ?_ (consumeAndEvaluate_proc s w).1
  unfold State.consumeAndEvaluate
  dsimp only
  (repeat' split) <;> simp [(takeConsume_steady s w.lanes w.data).pending]

theorem freeEntry_steady (s : State) (n : Index) : s.Steady (s.freeEntry n) := by
  rw [freeEntry_eq]
  exact steady_of_proc rfl rfl

theorem disarmRequest_steady (s : State) (n : Index) : s.Steady (s.disarmRequest n).1 := by
  refine steady_of_proc ?_ (disarmRequest_proc s n)
  cases hst : (s.entry n).state <;> simp [State.disarmRequest, hst, (freeEntry_steady _ n).pending]

theorem suspendRequest_steady (s : State) (n : Index) : s.Steady (s.suspendRequest n).1 := by
  refine steady_of_proc ?_ (suspendRequest_proc s n)
  cases hst : (s.entry n).state <;> simp [State.suspendRequest, hst]

theorem resumeRequest_steady (s : State) (n : Index) : s.Steady (s.resumeRequest n).1 := by
  refine steady_of_proc ?_ (resumeRequest_proc s n)
  cases hst : (s.entry n).state <;> simp [State.resumeRequest, hst]

theorem retuneRequest_steady (s : State) (n : Index) (d : Descriptor) : s.Steady (s.retuneRequest n d).1 := by
  refine steady_of_proc ?_ (retuneRequest_proc s n d)
  cases hc : s.retuneCheck n d <;> simp [State.retuneRequest, hc]

theorem flushRequest_steady (s : State) : s.Steady s.flushRequest :=
  steady_of_proc s.flushRequest_pending s.flushRequest_proc

theorem takeCommand_steady (s : State) (c : CommandSlot) : s.Steady (s.takeCommand c) := by
  have hpublish : ∀ {t : State} r l, s.Steady t → s.Steady (t.beginPublishing c r l) := fun _ _ h => h.setProc rfl
  unfold State.takeCommand
  split
  case h_2 => exact hpublish _ _ (disarmRequest_steady s c.operand)
  case h_3 => exact hpublish _ _ (suspendRequest_steady s c.operand)
  case h_4 => exact hpublish _ _ (resumeRequest_steady s c.operand)
  case h_7 => exact hpublish _ _ (flushRequest_steady s)
  all_goals exact setProc_steady rfl rfl

/-- A RESTART keeps the straps last sampled (R126). -/
theorem restart_steady (s : State) (tag : CommandTag) : s.Steady (s.restart tag) :=
  setProc_steady rfl rfl

theorem examine_steady (s : State) (lanes : Lanes) (data : Word) : s.Steady (s.examine lanes data) := by
  have hrefuse : ∀ w r, s.Steady (s.refuse w r) := fun _ _ => setProc_steady rfl rfl
  unfold State.examine
  repeat' split
  · exact .refl s
  · exact hrefuse _ _
  · exact .refl s
  · exact restart_steady s _
  · exact takeCommand_steady s _
  · exact hrefuse _ _

theorem meetTake_steady (s t : State) : t.Steady (s.meetTake t) := steady_of_proc rfl rfl

theorem hostWriteTaken_steady (s : State) (w : HostWrite) : s.Steady (s.hostWriteTaken w) := by
  have hmem : s.Steady { s with mem := Memory.writeLanes s.mem w.addr w.lanes w.data } := steady_of_proc rfl rfl
  have hjudged := hmem.trans (evaluate_steady _ w)
  refine State.Steady.trans ?_ (meetTake_steady s _)
  unfold State.announceWrite
  dsimp only
  repeat' split
  · exact hmem
  · exact hmem.trans (consumeAndEvaluate_steady _ w)
  · exact hjudged.trans (examine_steady _ _ _)
  · exact hjudged

theorem takeHostWrite_steady (s : State) (w : HostWrite) : s.Steady (s.takeHostWrite w) := by
  have htaken : ∀ {t : State} v, s.Steady t → s.Steady (t.freePort.hostWriteTaken v) := fun {t} v h => by
    have hfree : t.Steady t.freePort := steady_of_proc rfl rfl
    exact (h.trans hfree).trans (hostWriteTaken_steady _ v)
  unfold State.takeHostWrite
  split
  · exact forward_steady s _
  · split
    · exact htaken w (.refl s)
    · dsimp only
      split
      · exact htaken _ (present_steady s _)
      · exact present_steady s _

/-! ## The Command Processor's accesses -/

theorem finishReading_steady (s : State) (c : CommandSlot) (ws : List Word) : s.Steady (s.finishReading c ws) := by
  unfold State.finishReading
  split
  · unfold State.finishLoad
    split
    · exact setProc_steady rfl rfl
    · rw [loadEntry_eq]
      exact setProc_steady rfl rfl
  · exact (retuneRequest_steady s _ _).setProc rfl
  · exact setProc_steady rfl rfl
  · unfold State.finishJournal
    split <;> exact setProc_steady rfl rfl
  · unfold State.finishTimebase
    split <;> exact setProc_steady rfl rfl

theorem commandReadTaken_steady (c : CommandSlot) (s : State) : s.Steady (s.commandReadTaken c) := by
  unfold State.commandReadTaken
  dsimp only
  split
  · exact setProc_steady rfl rfl
  · have hread : ∀ ws, s.Steady { s with proc := { s.proc with claim := none, readWords := ws } } := fun _ => ⟨rfl, rfl⟩
    exact ((hread _).trans (finishReading_steady _ c _)).trans (meetTake_steady s _)

theorem primeReadTaken_steady (n : Index) (s : State) : s.Steady (s.primeReadTaken n) := by
  unfold State.primeReadTaken
  dsimp only
  split <;> exact setProc_steady rfl rfl

/-- A write of the processor's own keeps both, where the processor after it keeps the straps. -/
theorem ownWrite_steady (s : State) (offset : Nat) (v : Word) {p : Processor} (hp : p.cbsel = s.proc.cbsel) :
    s.Steady (s.ownWrite offset v p) :=
  setProc_steady rfl hp

theorem afterStartup_cbsel (p : Processor) (w : StartupWrite) (rest : List StartupWrite) :
    (p.afterStartup w rest).cbsel = p.cbsel := by
  cases rest <;> cases w <;> rfl

/-! ## The Journal Writer, the Scrubber and the Timebase -/

theorem begin_steady (s : State) : s.Steady s.begin := by
  unfold State.begin
  split <;> exact steady_of_proc rfl rfl

theorem takeInstallRequest_steady (s : State) : s.Steady s.takeInstallRequest := by
  unfold State.takeInstallRequest
  (repeat' split) <;> exact steady_of_proc rfl rfl

theorem install_steady (r : InstallRequest) (s : State) : s.Steady (s.install r) := by
  rw [install_eq]
  exact ⟨rfl, present_cbsel _⟩

theorem scrubReadTaken_steady (c : ScrubClaim) (s : State) : s.Steady (s.scrubReadTaken c) := by
  refine steady_of_proc ?_ (scrubReadTaken_frame s c).1
  unfold State.scrubReadTaken
  dsimp only
  split <;> simp

theorem makeTick_steady (s : State) : s.Steady s.makeTick := by
  refine steady_of_proc ?_ (makeTick_frame s).1
  have hframe := (makeTick_eq s).2
  rw [hframe]

theorem tickEvent_steady (s : State) : s.Steady s.tickEvent := by
  unfold State.tickEvent
  split
  · exact .refl s
  · exact makeTick_steady s

theorem tickEvent_if_steady (s : State) (b : Bool) : s.Steady (if b then s.tickEvent else s) := by
  cases b
  · exact .refl s
  · exact tickEvent_steady s

theorem clockPeriod_steady (s : State) : s.Steady s.clockPeriod := by
  unfold State.clockPeriod
  repeat' split
  · exact .refl s
  · exact steady_of_proc rfl rfl
  · exact makeTick_steady s

/-! ## Every command -/

/-- An outcome is a next state, with the queue of commands and the straps last sampled as they were. -/
def State.Answers (s : State) (o : Host.Outcome State Fault Refusal) : Prop := ∃ t, o = .next t ∧ s.Steady t

theorem State.Steady.answers {s t : State} (h : s.Steady t) : s.Answers (.next t) := ⟨t, rfl, h⟩

/-- A row that has no effect (log 12). -/
theorem answers_stay (s : State) : s.Answers (.next s) := (State.Steady.refl s).answers

/-- A row that is the taking of an access of the part's own. -/
theorem answers_taken (s : State) (c : Claimant) {f : State → State} (hf : ∀ t : State, t.Steady (f t)) :
    s.Answers (.next (s.takeInternal c f)) := (takeInternal_steady s c hf).answers

theorem assertReset_steady (s : State) : s.Steady s.assertReset := by
  obtain ⟨hproc, -, hpending⟩ := forwardHeld_frame s
  exact ⟨hpending, by simp only [State.assertReset, State.pinResetValues, Processor.reset, hproc]⟩

theorem commandRead_answers (s : State) : s.Answers (execCommandRead s) := by
  unfold execCommandRead
  split
  next c _ => exact answers_taken s _ (commandReadTaken_steady c)
  next => exact answers_stay s

theorem primeRead_answers (s : State) : s.Answers (execPrimeRead s) := by
  unfold execPrimeRead
  split
  next n _ => exact answers_taken s _ (primeReadTaken_steady n)
  next => exact answers_stay s

theorem snapshotWrite_answers (s : State) : s.Answers (execSnapshotWrite s) := by
  unfold execSnapshotWrite
  repeat' split
  next word rest _ =>
    exact answers_taken s _ fun t => by rw [snapshotWordTaken_eq]; exact ownWrite_steady t _ _ rfl
  next => exact answers_stay s
  next => exact answers_stay s

theorem completionWrite_answers (s : State) : s.Answers (execCompletionWrite s) := by
  unfold execCompletionWrite
  split
  next => exact answers_taken s _ fun t => by rw [completionTaken_eq]; exact ownWrite_steady t _ _ rfl
  next => exact answers_stay s

theorem refusalWrite_answers (s : State) : s.Answers (execRefusalWrite s) := by
  unfold execRefusalWrite
  split
  next => exact answers_taken s _ fun t => by rw [refusalTaken_eq]; exact ownWrite_steady t _ _ rfl
  next => exact answers_stay s

theorem startupWrite_answers (s : State) : s.Answers (execStartupWrite s) := by
  unfold execStartupWrite
  repeat' split
  next w rest _ =>
    exact answers_taken s _ fun t => by
      rw [startupWriteTaken_eq]
      exact ownWrite_steady t _ _ (afterStartup_cbsel t.proc w rest)
  next => exact answers_stay s
  next => exact answers_stay s

theorem recordWordWrite_answers (s : State) : s.Answers (execRecordWordWrite s) := by
  unfold execRecordWordWrite
  repeat' split
  next r _ _ => exact answers_taken s _ fun t => steady_of_proc (t.writeRecordWord_pending r) (t.writeRecordWord_proc r)
  next => exact answers_stay s
  next => exact answers_stay s

theorem publication_answers (s : State) : s.Answers (execPublication s) := by
  unfold execPublication
  repeat' split
  next => exact answers_stay s
  next r _ _ => exact answers_taken s _ fun t => steady_of_proc (t.publishRecord_pending r) (t.publishRecord_proc r)
  next => exact answers_stay s

theorem installation_answers (s : State) : s.Answers (execInstallation s) := by
  unfold execInstallation
  dsimp only
  split
  next r _ _ => exact ((takeInstallRequest_steady s).trans (takeInternal_steady _ _ (install_steady r))).answers
  next => exact answers_stay s

theorem scrubRead_answers (s : State) : s.Answers (execScrubRead s) := by
  unfold execScrubRead
  split
  next c _ => exact answers_taken s _ (scrubReadTaken_steady c)
  next => exact answers_stay s

theorem beginRecord_steady (s : State) : s.Steady (if s.mayBegin then s.begin else s) := by
  split
  · exact begin_steady s
  · exact .refl s

theorem hostAccessPresented_steady (s : State) (access : HostAccess) :
    s.Steady (if s.port.resetAsserted then s.forward access else if s.hostInProgress then s else s.present access) := by
  repeat' split
  · exact forward_steady s access
  · exact .refl s
  · exact present_steady s access

theorem releaseReset_pending (s : State) (cbsel : BitVec 2) : (s.releaseReset cbsel).pending = s.pending :=
  (forwardHeld_frame s).2.2

/-- Every command but RESET_RELEASE keeps the queue of commands and the straps last sampled. -/
theorem exec_answers {c : Instr} (hc : ∀ b1 b0, c ≠ .resetRelease b1 b0) (s : State) : s.Answers (exec c s) := by
  cases c with
  | pinReset => exact (assertReset_steady s).answers
  | resetRelease b1 b0 => exact absurd rfl (hc b1 b0)
  | commandRead => exact commandRead_answers s
  | primeRead => exact primeRead_answers s
  | scrubRead => exact scrubRead_answers s
  | snapshotWrite => exact snapshotWrite_answers s
  | completionWrite => exact completionWrite_answers s
  | refusalWrite => exact refusalWrite_answers s
  | startupWrite => exact startupWrite_answers s
  | beginRecord => exact (beginRecord_steady s).answers
  | recordWordWrite => exact recordWordWrite_answers s
  | publication => exact publication_answers s
  | installRequestTaken => exact (takeInstallRequest_steady s).answers
  | installation => exact installation_answers s
  | portGrant => exact (grant_steady s).answers
  | tickEvent => exact (tickEvent_steady s).answers
  | holdoffExpiry | deadlineExpiry | scrubExpiry => exact (tickEvent_if_steady s _).answers
  | referenceClockPeriod => exact (clockPeriod_steady s).answers
  | memorySideAgentWrite a data => exact (steady_of_proc (s.writeWord_pending a data) (s.writeWord_proc a data)).answers
  | hostAccessPresented access => exact (hostAccessPresented_steady s access).answers
  | hostWrite | consume | load | disarm | suspend | resume | retune | snapshot | flush | mark | journal | timebase
  | badop | restart => exact (takeHostWrite_steady s _).answers

/-- Settles O2: RESET_RELEASE by its frame, and every other command by `exec_answers`. -/
theorem everyCommandAnswers : Obligations.EveryCommandAnswers := by
  intro c s
  by_cases hc : ∀ b1 b0, c ≠ .resetRelease b1 b0
  · obtain ⟨t, hexec, hpending, hcbsel⟩ := exec_answers hc s
    exact ⟨t, hexec, hpending, fun _ => hcbsel⟩
  · obtain ⟨b1, b0, rfl⟩ : ∃ b1 b0, c = .resetRelease b1 b0 := by
      simpa only [not_forall, not_not] using hc
    exact ⟨_, rfl, releaseReset_pending s _, fun h => absurd h hc⟩

end Sys2Proof.Machine
end

section
/-! PROOFS. What an act can do to memory, the port and the timers of chapter 9; and every step keeps the canonical form
of memory (O55). -/

namespace Sys2Proof.Machine

/-! ## Operations that leave them alone -/

/-- The scrub countdown: its interval, the ticks left, and whether it runs (R147). -/
def Scrubber.timer (sc : Scrubber) : BitVec 16 × BitVec 16 × Bool := (sc.interval, sc.countdown, sc.running)

/-- From state s to state t memory, the port, the Timebase and the scrub countdown stay as they are. -/
structure State.Calm (s t : State) : Prop where
  mem : t.mem = s.mem
  port : t.port = s.port
  timebase : t.timebase = s.timebase
  timer : t.scrubber.timer = s.scrubber.timer

theorem State.Calm.refl (s : State) : s.Calm s := ⟨rfl, rfl, rfl, rfl⟩

theorem State.Calm.trans {s t u : State} (h : s.Calm t) (k : t.Calm u) : s.Calm u :=
  ⟨k.mem.trans h.mem, k.port.trans h.port, k.timebase.trans h.timebase, k.timer.trans h.timer⟩

theorem evaluate_calm (s : State) (w : HostWrite) : s.Calm (s.evaluate w) :=
  ⟨s.evaluate_mem w, s.evaluate_port w, s.evaluate_timebase w, by rw [s.evaluate_scrubber w]⟩

theorem takeConsume_calm (s : State) (lanes : Lanes) (data : Word) : s.Calm (s.takeConsume lanes data) := by
  unfold State.takeConsume
  dsimp only
  split <;> exact ⟨rfl, rfl, rfl, rfl⟩

theorem emit_calm (s : State) (e : Event) : s.Calm (s.emit e) := ⟨rfl, rfl, rfl, rfl⟩

theorem consumeAndEvaluate_calm (s : State) (w : HostWrite) : s.Calm (s.consumeAndEvaluate w) := by
  have htaken := takeConsume_calm s w.lanes w.data
  have hjudged := htaken.trans (evaluate_calm _ w)
  unfold State.consumeAndEvaluate
  dsimp only
  split
  · split
    · exact hjudged.trans (emit_calm _ _)
    · refine State.Calm.trans (t := if _ then _ else _) ?_ ⟨rfl, rfl, rfl, rfl⟩
      split
      · exact (htaken.trans (emit_calm _ _)).trans (evaluate_calm _ w)
      · exact hjudged.trans (emit_calm _ _)
  · exact hjudged

/-- Freeing an entry voids its scrub claim, which is none of the countdown's (R151). -/
theorem freeEntry_calm (s : State) (n : Index) : s.Calm (s.freeEntry n) := by
  rw [freeEntry_eq]
  exact ⟨rfl, rfl, rfl, rfl⟩

/-- A write of one entry, and the events that go with it. -/
theorem setEntry_emitAll_calm (s : State) (n : Index) (e : Entry) (es : List Event) :
    s.Calm ((s.setEntry n e).emitAll es) := by
  refine ⟨?_, ?_, ?_, ?_⟩ <;> simp [State.emitAll]

theorem disarmRequest_calm (s : State) (n : Index) : s.Calm (s.disarmRequest n).1 := by
  have hfreed : s.Calm ((s.flushMerge n).freeEntry n) := by
    rw [flushMerge_eq]
    exact (setEntry_emitAll_calm s n _ _).trans (freeEntry_calm _ n)
  cases hst : (s.entry n).state <;> simp only [State.disarmRequest, hst]
  · exact .refl s
  · exact .refl s
  · exact hfreed
  · exact hfreed

theorem suspendRequest_calm (s : State) (n : Index) : s.Calm (s.suspendRequest n).1 := by
  cases hst : (s.entry n).state
  case armed =>
    rw [suspendRequest_eq_of_armed hst]
    exact setEntry_emitAll_calm s n _ _
  all_goals simpa only [State.suspendRequest, hst] using .refl s

theorem resumeRequest_calm (s : State) (n : Index) : s.Calm (s.resumeRequest n).1 := by
  cases hst : (s.entry n).state
  case suspended =>
    rw [resumeRequest_eq_of_suspended hst]
    exact ⟨rfl, rfl, rfl, rfl⟩
  all_goals simpa only [State.resumeRequest, hst] using .refl s

theorem retuneRequest_calm (s : State) (n : Index) (d : Descriptor) : s.Calm (s.retuneRequest n d).1 := by
  cases hc : s.retuneCheck n d
  case none =>
    rw [retuneRequest_eq_of_check hc]
    exact setEntry_emitAll_calm s n _ _
  case some => simpa only [State.retuneRequest, hc] using .refl s

theorem flushRequest_calm (s : State) : s.Calm s.flushRequest :=
  ⟨s.flushRequest_mem, s.flushRequest_port, s.flushRequest_timebase, by rw [s.flushRequest_scrubber]⟩

theorem setProc_calm (s : State) (p : Processor) : s.Calm (s.setProc p) := ⟨rfl, rfl, rfl, rfl⟩

theorem takeCommand_calm (s : State) (c : CommandSlot) : s.Calm (s.takeCommand c) := by
  have hpublish : ∀ {t : State} r l, s.Calm t → s.Calm (t.beginPublishing c r l) := fun _ _ h =>
    h.trans (setProc_calm _ _)
  unfold State.takeCommand
  split
  case h_2 => exact hpublish _ _ (disarmRequest_calm s c.operand)
  case h_3 => exact hpublish _ _ (suspendRequest_calm s c.operand)
  case h_4 => exact hpublish _ _ (resumeRequest_calm s c.operand)
  case h_7 => exact hpublish _ _ (flushRequest_calm s)
  all_goals exact setProc_calm s _

theorem loadEntry_calm (s : State) (n : Index) (d : Descriptor) : s.Calm (s.loadEntry n d) := by
  rw [loadEntry_eq]
  exact ⟨rfl, rfl, rfl, rfl⟩

theorem primeReadTaken_calm (n : Index) (s : State) : s.Calm (s.primeReadTaken n) := by
  unfold State.primeReadTaken
  dsimp only
  split <;> exact ⟨rfl, rfl, rfl, rfl⟩

theorem begin_calm (s : State) : s.Calm s.begin := by
  unfold State.begin
  split <;> exact ⟨rfl, rfl, rfl, rfl⟩

theorem takeInstallRequest_calm (s : State) : s.Calm s.takeInstallRequest := by
  unfold State.takeInstallRequest
  (repeat' split) <;> exact ⟨rfl, rfl, rfl, rfl⟩

theorem scrubReadTaken_calm (c : ScrubClaim) (s : State) : s.Calm (s.scrubReadTaken c) := by
  unfold State.scrubReadTaken
  dsimp only
  split <;> exact ⟨rfl, rfl, rfl, rfl⟩

theorem meetTake_calm (s t : State) : t.Calm (s.meetTake t) := ⟨rfl, rfl, rfl, rfl⟩

/-! ## Host writes and the reads of a command -/

theorem restart_calm {s t : State} (h : s.Calm t) (tag : CommandTag) : (s.restart tag).Calm (t.restart tag) := by
  refine ⟨?_, ?_, ?_, rfl⟩ <;> simp only [State.restart, State.setProc, State.resetBlocks, h.mem, h.port, h.timebase]

theorem acceptTimebase_calm {s t : State} (h : s.Calm t) (divisor interval : BitVec 16) :
    (s.acceptTimebase divisor interval).Calm (t.acceptTimebase divisor interval) := by
  refine ⟨?_, ?_, ?_, rfl⟩ <;> simp only [State.acceptTimebase, h.mem, h.port, h.timebase]

theorem examine_calm (s : State) (lanes : Lanes) (data : Word) :
    s.Calm (s.examine lanes data) ∨ ∃ tag, s.examine lanes data = s.restart tag := by
  unfold State.examine
  repeat' split
  · exact .inl (.refl s)
  · exact .inl (setProc_calm s _)
  · exact .inl (.refl s)
  · exact .inr ⟨_, rfl⟩
  · exact .inl (takeCommand_calm s _)
  · exact .inl (setProc_calm s _)

/-- The state in which a host write has reached memory and no block has been told. -/
def State.stored (s : State) (w : HostWrite) : State :=
  { s with mem := Memory.writeLanes s.mem w.addr w.lanes w.data }

/-- Beyond its store in memory a taken host write changes the port and the timers by a RESTART alone (R126, R130). -/
theorem hostWriteTaken_calm (w : HostWrite) (s : State) :
    (s.stored w).Calm (s.hostWriteTaken w) ∨ ∃ tag, ((s.stored w).restart tag).Calm (s.hostWriteTaken w) := by
  have hmeet := meetTake_calm s (s.announceWrite w)
  have hannounced : (s.stored w).Calm (s.announceWrite w) ∨
      ∃ tag, ((s.stored w).restart tag).Calm (s.announceWrite w) := by
    have hjudged : (s.stored w).Calm ((s.stored w).evaluate w) := evaluate_calm _ w
    unfold State.announceWrite
    dsimp only
    repeat' split
    · exact .inl (.refl _)
    · exact .inl (consumeAndEvaluate_calm _ w)
    · rcases examine_calm ((s.stored w).evaluate w) w.lanes w.data with hcalm | ⟨tag, hrestart⟩
      · exact .inl (hjudged.trans hcalm)
      · refine .inr ⟨tag, ?_⟩
        change ((s.stored w).restart tag).Calm (((s.stored w).evaluate w).examine w.lanes w.data)
        rw [hrestart]
        exact restart_calm hjudged tag
    · exact .inl hjudged
  exact hannounced.imp (·.trans hmeet) fun ⟨tag, h⟩ => ⟨tag, h.trans hmeet⟩

/-- A taken host write stores its enabled lanes, and changes no other byte (R130, R131). -/
theorem hostWriteTaken_mem (w : HostWrite) (s : State) :
    (s.hostWriteTaken w).mem = Memory.writeLanes s.mem w.addr w.lanes w.data := by
  rcases hostWriteTaken_calm w s with h | ⟨_, h⟩ <;> exact h.mem

/-- The last read of a command changes the timers by an accepted TIMEBASE alone, whose divisor is not 0 (R124). -/
theorem finishReading_calm (s : State) (c : CommandSlot) (ws : List Word) :
    s.Calm (s.finishReading c ws) ∨ ∃ d i, d ≠ 0 ∧ (s.acceptTimebase d i).Calm (s.finishReading c ws) := by
  have hproc : ∀ {t : State} p, s.Calm t → s.Calm (t.setProc p) := fun p h => h.trans (setProc_calm _ p)
  unfold State.finishReading
  split
  · left
    unfold State.finishLoad
    split
    · exact hproc _ (.refl s)
    · exact hproc _ (loadEntry_calm s _ _)
  · exact .inl (hproc _ (retuneRequest_calm s _ _))
  · exact .inl (hproc _ (emit_calm s _))
  · left
    unfold State.finishJournal
    split
    · exact hproc _ (.refl s)
    · exact hproc _ ⟨rfl, rfl, rfl, rfl⟩
  · unfold State.finishTimebase
    split
    next => exact .inl (hproc _ (.refl s))
    next hd => exact .inr ⟨_, _, hd, setProc_calm _ _⟩

theorem commandReadTaken_calm (c : CommandSlot) (s : State) :
    s.Calm (s.commandReadTaken c) ∨ ∃ d i, d ≠ 0 ∧ (s.acceptTimebase d i).Calm (s.commandReadTaken c) := by
  unfold State.commandReadTaken
  dsimp only
  generalize s.proc.readWords ++ [s.readWord (s.cb (readOffset c s.proc.readWords.length))] = ws
  split
  · exact .inl (setProc_calm s _)
  · have hread : s.Calm { s with proc := { s.proc with claim := none, readWords := ws } } := ⟨rfl, rfl, rfl, rfl⟩
    have hmeet := meetTake_calm s (State.finishReading { s with proc := { s.proc with
      claim := none, readWords := ws } } c ws)
    refine (finishReading_calm _ c ws).imp (fun h => (hread.trans h).trans hmeet) ?_
    rintro ⟨d, i, hd, h⟩
    exact ⟨d, i, hd, ((acceptTimebase_calm hread d i).trans h).trans hmeet⟩

theorem commandReadTaken_frame (c : CommandSlot) (s : State) :
    (s.commandReadTaken c).mem = s.mem ∧ (s.commandReadTaken c).port = s.port := by
  rcases commandReadTaken_calm c s with h | ⟨_, _, -, h⟩ <;> exact ⟨h.mem, h.port⟩

/-! ## Memory -/

/-- An act changes memory by the store of one word's lanes, or not at all. -/
inductive State.Stores (s t : State) : Prop
  | none (h : t.mem = s.mem)
  | lanes (a : Addr) (lanes : Lanes) (data : Word) (h : t.mem = Memory.writeLanes s.mem a lanes data)

theorem makeTick_mem (s : State) : s.makeTick.mem = s.mem := by
  rw [(makeTick_eq s).2]

theorem act_stores {s t : State} (hact : Act s t) : s.Stores t := by
  cases hact with
  | store a lanes data => exact .lanes a lanes data rfl
  | hostWrite w => exact .lanes _ _ _ (hostWriteTaken_mem w s)
  | commandRead c => exact .none (commandReadTaken_frame c s).1
  | primeRead n => exact .none (primeReadTaken_calm n s).mem
  | snapshotWord | completion | refusal | startup | recordWord | publication => exact .lanes _ Lanes.both _ rfl
  | installation r => exact .lanes (s.cb Config.cbProduce) Lanes.both 0 (by rw [install_eq]; rfl)
  | beginRecord => exact .none (begin_calm s).mem
  | installRequest => exact .none (takeInstallRequest_calm s).mem
  | scrubRead c => exact .none (scrubReadTaken_calm c s).mem
  | tick => exact .none (makeTick_mem s)
  | grant => exact .none s.grant_mem
  | dequeue | readOut | present | freePort | pinReset | release | phase => exact .none rfl

theorem act_memWf {s t : State} (hact : Act s t) (h : Memory.wf s.mem) : Memory.wf t.mem := by
  cases act_stores hact with
  | none hm => rwa [hm]
  | lanes a lanes data hm =>
    rw [hm]
    exact writeLanes_wf _ a lanes data h

/-- Settles O55: every act stores one word's lanes or none, and a step is a sequence of acts. -/
theorem stepsKeepMemoryForm : Obligations.StepsKeepMemoryForm := fun _ _ hstep =>
  step_keeps (P := fun s => Memory.wf s.mem) (fun _ _ => act_memWf) hstep

end Sys2Proof.Machine
end

section
/-! PROOFS. Every step keeps the Port Arbiter and the timers of chapter 9 as their rules allow (O60). -/

namespace Sys2Proof.Machine

/-! ## The timers -/

/-- The Scrubber's rules of R147 and R148 speak of its countdown alone. -/
theorem scrubber_wf_of_timer {a b : Scrubber} (h : b.timer = a.timer) (ha : a.wf) : b.wf := by
  simp only [Scrubber.timer, Prod.mk.injEq] at h
  obtain ⟨hinterval, hcountdown, hrunning⟩ := h
  simpa only [Scrubber.wf, hinterval, hcountdown, hrunning] using ha

theorem timersWf_of_calm {s t : State} (hc : s.Calm t) (h : s.timersWf) : t.timersWf := by
  obtain ⟨htime, hscrub⟩ := h
  exact ⟨by rwa [hc.timebase], scrubber_wf_of_timer hc.timer hscrub⟩

/-- A pending divisor other than 0 keeps the Timebase's rules (R143, R145). -/
theorem timebase_wf_pending {t : Timebase} (h : t.wf) {d : BitVec 16} (hd : d ≠ 0) :
    Timebase.wf { t with pendingDivisor := some d } := by
  obtain ⟨hdivisor, -, hphase⟩ := h
  exact ⟨hdivisor, by simpa using hd, hphase⟩

/-- A countdown set to its interval runs exactly while that is above 0 (R124, R148). -/
theorem scrubber_wf_restarted (sc : Scrubber) (interval : BitVec 16) :
    Scrubber.wf { sc with interval := interval, countdown := interval, running := interval != 0 } := by
  refine ⟨bne_iff_ne, fun hrun => ⟨?_, le_rfl⟩⟩
  have hne : interval ≠ 0 := bne_iff_ne.1 hrun
  exact Nat.pos_of_ne_zero fun h0 => hne (BitVec.eq_of_toNat_eq h0)

theorem restart_timersWf {s : State} (h : s.timersWf) (tag : CommandTag) : (s.restart tag).timersWf :=
  ⟨timebase_wf_pending h.1 (by decide), reset_timersWf.2⟩

theorem hostWriteTaken_timersWf {s : State} (h : s.timersWf) (w : HostWrite) : (s.hostWriteTaken w).timersWf := by
  have hstored : (s.stored w).timersWf := h
  rcases hostWriteTaken_calm w s with hcalm | ⟨tag, hcalm⟩
  · exact timersWf_of_calm hcalm hstored
  · exact timersWf_of_calm hcalm (restart_timersWf hstored tag)

theorem commandReadTaken_timersWf {s : State} (h : s.timersWf) (c : CommandSlot) : (s.commandReadTaken c).timersWf := by
  rcases commandReadTaken_calm c s with hcalm | ⟨d, i, hd, hcalm⟩
  · exact timersWf_of_calm hcalm h
  · exact timersWf_of_calm hcalm ⟨timebase_wf_pending h.1 hd, scrubber_wf_restarted s.scrubber i⟩

/-- At a tick event the latest divisor comes into force and the phase restarts (R143 to R145). -/
theorem ticked_wf {t : Timebase} (h : t.wf) : t.ticked.wf := by
  obtain ⟨hdivisor, hpending, -⟩ := h
  have hlatest : t.latestDivisor ≠ 0 := by
    unfold Timebase.latestDivisor
    cases hp : t.pendingDivisor with
    | none => exact hdivisor
    | some d => exact fun h0 => hpending (by rw [hp]; exact congrArg some h0)
  exact ⟨hlatest, nofun, Nat.pos_of_ne_zero fun h0 => hlatest (BitVec.eq_of_toNat_eq h0)⟩

/-- An expiry sets the countdown to S again, whatever the Scrubber claims (R148, R149). -/
theorem expireScrub_timer (s : State) :
    s.expireScrub.scrubber.timer = (s.scrubber.interval, s.scrubber.interval, s.scrubber.running) := by
  unfold State.expireScrub
  (repeat' split) <;> rfl

theorem tickScrub_wf {s : State} (h : s.scrubber.wf) : s.tickScrub.scrubber.wf := by
  obtain ⟨hiff, hrange⟩ := h
  by_cases hrun : s.scrubber.running = true
  · obtain ⟨hpos, hle⟩ := hrange hrun
    by_cases hcount : 1 < s.scrubber.countdown.toNat
    · rw [tickScrub_of_counting hrun hcount]
      have hpred : (s.scrubber.countdown - 1).toNat = s.scrubber.countdown.toNat - 1 :=
        BitVec.toNat_sub_of_le (by rw [BitVec.le_def]; exact hpos)
      refine ⟨hiff, fun _ => ?_⟩
      show 1 ≤ (s.scrubber.countdown - 1).toNat ∧ (s.scrubber.countdown - 1).toNat ≤ s.scrubber.interval.toNat
      omega
    · have hdue : s.scrubber.due = true := by simp [Scrubber.due, hrun, Nat.not_lt.1 hcount]
      have hexpires : s.tickScrub = s.expireScrub := if_pos hdue
      have htimer : s.tickScrub.scrubber.timer =
          Scrubber.timer { s.scrubber with countdown := s.scrubber.interval } := by
        rw [hexpires]
        exact expireScrub_timer s
      exact scrubber_wf_of_timer htimer ⟨hiff, fun _ => ⟨hpos.trans hle, le_rfl⟩⟩
  · rw [tickScrub_of_not_running (Bool.not_eq_true _ ▸ hrun)]
    exact ⟨hiff, hrange⟩

theorem makeTick_timersWf {s : State} (h : s.timersWf) : s.makeTick.timersWf := by
  obtain ⟨htime, hscrub⟩ := h
  refine ⟨?_, ?_⟩
  · rw [(makeTick_eq s).2]
    exact ticked_wf htime
  · rw [makeTick_eq_tickScrub]
    exact tickScrub_wf (by rwa [State.tickTimers_scrubber])

/-- A period before the last of the divisor in force advances the phase by 1 (R143). -/
theorem phase_timersWf {s : State} (hlt : s.timebase.phase.toNat + 1 < s.timebase.divisor.toNat) (h : s.timersWf) :
    State.timersWf { s with timebase := { s.timebase with phase := s.timebase.phase + 1 } } := by
  obtain ⟨⟨hdivisor, hpending, -⟩, hscrub⟩ := h
  refine ⟨⟨hdivisor, hpending, ?_⟩, hscrub⟩
  show (s.timebase.phase + 1).toNat < s.timebase.divisor.toNat
  have := s.timebase.divisor.isLt
  have hone : (1 : BitVec 16).toNat = 1 := rfl
  rw [BitVec.toNat_add, hone]
  omega

theorem act_timersWf {s t : State} (hact : Act s t) (h : s.timersWf) : t.timersWf := by
  cases hact with
  | pinReset | release => exact reset_timersWf
  | hostWrite w => exact hostWriteTaken_timersWf h w
  | commandRead c => exact commandReadTaken_timersWf h c
  | primeRead n => exact timersWf_of_calm (primeReadTaken_calm n s) h
  | beginRecord => exact timersWf_of_calm (begin_calm s) h
  | installRequest => exact timersWf_of_calm (takeInstallRequest_calm s) h
  | scrubRead c => exact timersWf_of_calm (scrubReadTaken_calm c s) h
  | installation r =>
    rw [install_eq]
    exact h
  | tick => exact makeTick_timersWf h
  | phase hlt => exact phase_timersWf hlt h
  | grant => exact ⟨by rw [s.grant_timebase]; exact h.1, by rw [s.grant_scrubber]; exact h.2⟩
  | dequeue | store | readOut | present | freePort | snapshotWord | completion | refusal | startup | recordWord
  | publication => exact h

/-! ## The port's moves -/

theorem freePort_portWf {s : State} (h : s.portWf) : s.freePort.portWf := by
  obtain ⟨hguard, hwait, hreset, -⟩ := h
  exact ⟨hguard, hwait, fun hr => ⟨rfl, (hreset hr).2⟩, nofun⟩

/-- The guard count stays at 8 or below: at 8 the host is granted only where no internal claim waits (R136). -/
theorem guardAfterHostGrant_le {s : State} (h : s.internalWaits = false ∨ s.port.guard < Config.guardLimit) :
    s.guardAfterHostGrant ≤ Config.guardLimit := by
  unfold State.guardAfterHostGrant
  split
  next hwaits => exact h.resolve_left (by simp [hwaits])
  next => exact Nat.zero_le _

theorem grant_portWf {s : State} (h : s.portWf) : s.grant.portWf := by
  obtain ⟨hguard, hwait, hreset, hclaims⟩ := h
  rcases grant_cases s with hg | ⟨hr, hp, hlimit, access, -, hg⟩ | ⟨hr, hp, c, hc, -, hg⟩ <;> rw [hg]
  · exact ⟨hguard, hwait, hreset, hclaims⟩
  · have hle := guardAfterHostGrant_le hlimit
    cases access with
    | read a => exact ⟨hle, rfl, fun h => absurd h (by simp [State.grantHost, hr]), hclaims⟩
    | write w => exact ⟨hle, rfl, fun h => absurd h (by simp [State.grantHost, hr]), nofun⟩
  · refine ⟨Nat.zero_le _, hwait, fun h => absurd h (by simp [State.grantInternal, hr]), fun d hd => ?_⟩
    obtain rfl : c = d := by simpa [State.grantInternal] using hd
    exact hc

theorem present_portWf {s : State} (h : s.portWf) (hr : s.port.resetAsserted = false) (access : HostAccess) :
    (s.present access).portWf := by
  obtain ⟨hguard, -, -, hclaims⟩ := h
  exact grant_portWf ⟨hguard, rfl, fun h => absurd h (by simp [hr]), hclaims⟩

theorem forward_portWf {s : State} (h : s.portWf) (access : HostAccess) : (s.forward access).portWf := by
  cases access <;> exact h

theorem portWf_of_reset {t : State} {d : Word} {b : Bool} (h : t.port = .reset d b) : t.portWf := by
  unfold State.portWf
  rw [h]
  exact ⟨Nat.zero_le _, rfl, fun _ => ⟨rfl, rfl⟩, nofun⟩

/-- What leaves the port alone and does not drop the claim whose access is being performed (R134). -/
theorem portWf_of_port {s t : State} (h : s.portWf) (hport : t.port = s.port)
    (hclaims : ∀ c, s.port.performing = some (.internal c) → s.claims c = true → t.claims c = true) : t.portWf := by
  obtain ⟨hguard, hwait, hreset, hperforming⟩ := h
  unfold State.portWf
  rw [hport]
  exact ⟨hguard, hwait, hreset, fun c hc => hclaims c hc (hperforming c hc)⟩

/-- Where no access is being performed, the claims may change in any way. -/
theorem portWf_of_free {s t : State} (h : s.portWf) (hfree : s.port.performing = none) (hport : t.port = s.port) :
    t.portWf := portWf_of_port h hport (by simp [hfree])

theorem hostWriteTaken_portWf {s : State} (h : s.portWf) (hfree : s.port.performing = none) (w : HostWrite) :
    (s.hostWriteTaken w).portWf := by
  rcases hostWriteTaken_calm w s with hcalm | ⟨tag, hcalm⟩
  · exact portWf_of_free h hfree hcalm.port
  · exact portWf_of_reset hcalm.port

theorem takeHostWrite_portWf {s : State} (h : s.portWf) (w : HostWrite) : (s.takeHostWrite w).portWf := by
  have htaken : ∀ {t : State} v, t.portWf → (t.freePort.hostWriteTaken v).portWf := fun v ht =>
    hostWriteTaken_portWf (freePort_portWf ht) rfl v
  unfold State.takeHostWrite
  split
  · exact forward_portWf h _
  next hr =>
    have hpresent := present_portWf h (by simpa using hr) (.write w)
    split
    · exact htaken w h
    · dsimp only
      split
      · exact htaken _ hpresent
      · exact hpresent

/-! ## The part's own acts and accesses -/

/-- An outcome is a next state whose port is as chapter 8 allows. -/
def PortKept (o : Host.Outcome State Fault Refusal) : Prop := ∀ t, o = .next t → t.portWf

theorem portKept_next {t : State} (h : t.portWf) : PortKept (.next t) := fun _ ht => by
  cases ht
  exact h

/-- An access of the part's own leaves the port alone as it is taken: by then the memory is free again (R135). -/
theorem portKept_taken {s : State} (h : s.portWf) (c : Claimant) {f : State → State}
    (hf : ∀ t : State, (f t).port = t.port) : PortKept (.next (s.takeInternal c f)) := by
  refine portKept_next ?_
  unfold State.takeInternal
  dsimp only
  split
  · exact portWf_of_free (freePort_portWf (grant_portWf h)) rfl (hf _)
  · exact grant_portWf h

theorem install_port (r : InstallRequest) (s : State) : (s.install r).port = s.port := by rw [install_eq]

theorem commandRead_portKept {s : State} (h : s.portWf) : PortKept (execCommandRead s) := by
  unfold execCommandRead
  split
  next c _ => exact portKept_taken h _ fun t => (commandReadTaken_frame c t).2
  next => exact portKept_next h

theorem primeRead_portKept {s : State} (h : s.portWf) : PortKept (execPrimeRead s) := by
  unfold execPrimeRead
  split
  next n _ => exact portKept_taken h _ fun t => (primeReadTaken_calm n t).port
  next => exact portKept_next h

theorem snapshotWrite_portKept {s : State} (h : s.portWf) : PortKept (execSnapshotWrite s) := by
  unfold execSnapshotWrite
  repeat' split
  next word rest _ => exact portKept_taken h _ fun t => t.snapshotWordTaken_port word rest
  next => exact portKept_next h
  next => exact portKept_next h

theorem completionWrite_portKept {s : State} (h : s.portWf) : PortKept (execCompletionWrite s) := by
  unfold execCompletionWrite
  split
  · exact portKept_taken h _ State.completionTaken_port
  · exact portKept_next h

theorem refusalWrite_portKept {s : State} (h : s.portWf) : PortKept (execRefusalWrite s) := by
  unfold execRefusalWrite
  split
  · exact portKept_taken h _ State.refusalTaken_port
  · exact portKept_next h

theorem startupWrite_portKept {s : State} (h : s.portWf) : PortKept (execStartupWrite s) := by
  unfold execStartupWrite
  repeat' split
  next w rest _ => exact portKept_taken h _ fun t => t.startupWriteTaken_port w rest
  next => exact portKept_next h
  next => exact portKept_next h

theorem recordWordWrite_portKept {s : State} (h : s.portWf) : PortKept (execRecordWordWrite s) := by
  unfold execRecordWordWrite
  repeat' split
  next r _ _ => exact portKept_taken h _ fun t => t.writeRecordWord_port r
  next => exact portKept_next h
  next => exact portKept_next h

theorem publication_portKept {s : State} (h : s.portWf) : PortKept (execPublication s) := by
  unfold execPublication
  repeat' split
  next => exact portKept_next h
  next r _ _ => exact portKept_taken h _ fun t => t.publishRecord_port r
  next => exact portKept_next h

theorem scrubRead_portKept {s : State} (h : s.portWf) : PortKept (execScrubRead s) := by
  unfold execScrubRead
  split
  next c _ => exact portKept_taken h _ fun t => (scrubReadTaken_calm c t).port
  next => exact portKept_next h

/-- An install request that is taken adds the writer's claim of its PRODUCE write (R101). -/
theorem takeInstallRequest_portWf {s : State} (h : s.portWf) : s.takeInstallRequest.portWf := by
  unfold State.takeInstallRequest
  split
  next r hr =>
    split
    · refine portWf_of_port h rfl fun c _ hc => ?_
      cases c with
      | writer => simp [State.claims, Journal.claims, Journal.takeRequest, hr]
      | processor | scrubber => exact hc
    · exact h
  next => exact h

theorem installation_portKept {s : State} (h : s.portWf) : PortKept (execInstallation s) := by
  have hrequest := takeInstallRequest_portWf h
  unfold execInstallation
  dsimp only
  split
  next r _ _ => exact portKept_taken hrequest _ (install_port r)
  next => exact portKept_next h

/-- A record that is begun presents the writer's claim of its first write (R87). -/
theorem begin_portWf {s : State} (h : s.portWf) : s.begin.portWf := by
  unfold State.begin
  split
  · refine portWf_of_port h rfl fun c _ hc => ?_
    cases c with
    | writer => rfl
    | processor | scrubber => exact hc
  · exact h

theorem tickScrub_claim (s : State) (h : s.scrubber.claim.isSome = true) :
    s.tickScrub.scrubber.claim = s.scrubber.claim := by
  unfold State.tickScrub State.expireScrub
  simp only [h, if_true]
  (repeat' split) <;> rfl

/-- A tick event drops no claim: the Scrubber's expiry with a claim outstanding is dropped (R149). -/
theorem makeTick_portWf {s : State} (h : s.portWf) : s.makeTick.portWf := by
  obtain ⟨hproc, hport⟩ := makeTick_frame s
  have hjournal : s.makeTick.journal = s.journal := by rw [(makeTick_eq s).2]
  refine portWf_of_port h hport fun c _ hc => ?_
  cases c with
  | processor => simpa only [State.claims, hproc] using hc
  | writer => simpa only [State.claims, hjournal] using hc
  | scrubber =>
    have hclaim : s.tickTimers.scrubber.claim.isSome = true := by rwa [State.tickTimers_scrubber]
    simp only [State.claims, makeTick_eq_tickScrub, State.meetTake_scrubber, tickScrub_claim _ hclaim, hclaim]

theorem tickEvent_portWf {s : State} (h : s.portWf) : s.tickEvent.portWf := by
  unfold State.tickEvent
  split
  · exact h
  · exact makeTick_portWf h

theorem tickEvent_if_portKept {s : State} (h : s.portWf) (b : Bool) :
    PortKept (.next (if b then s.tickEvent else s)) := by
  cases b
  · exact portKept_next h
  · exact portKept_next (tickEvent_portWf h)

theorem clockPeriod_portWf {s : State} (h : s.portWf) : s.clockPeriod.portWf := by
  unfold State.clockPeriod
  repeat' split
  · exact h
  · exact h
  · exact makeTick_portWf h

theorem beginRecord_portKept {s : State} (h : s.portWf) : PortKept (execBeginRecord s) := by
  refine portKept_next ?_
  split
  · exact begin_portWf h
  · exact h

theorem hostAccessPresented_portKept {s : State} (h : s.portWf) (access : HostAccess) :
    PortKept (execHostAccessPresented access s) := by
  refine portKept_next ?_
  repeat' split
  · exact forward_portWf h access
  · exact h
  next hr _ => exact present_portWf h (by simpa using hr) access

theorem exec_portKept (c : Instr) {s : State} (h : s.portWf) : PortKept (exec c s) := by
  cases c with
  | pinReset | resetRelease => exact portKept_next (portWf_of_reset rfl)
  | commandRead => exact commandRead_portKept h
  | primeRead => exact primeRead_portKept h
  | scrubRead => exact scrubRead_portKept h
  | snapshotWrite => exact snapshotWrite_portKept h
  | completionWrite => exact completionWrite_portKept h
  | refusalWrite => exact refusalWrite_portKept h
  | startupWrite => exact startupWrite_portKept h
  | beginRecord => exact beginRecord_portKept h
  | recordWordWrite => exact recordWordWrite_portKept h
  | publication => exact publication_portKept h
  | installRequestTaken => exact portKept_next (takeInstallRequest_portWf h)
  | installation => exact installation_portKept h
  | portGrant => exact portKept_next (grant_portWf h)
  | tickEvent => exact portKept_next (tickEvent_portWf h)
  | holdoffExpiry | deadlineExpiry | scrubExpiry => exact tickEvent_if_portKept h _
  | referenceClockPeriod => exact portKept_next (clockPeriod_portWf h)
  | memorySideAgentWrite => exact portKept_next h
  | hostAccessPresented access => exact hostAccessPresented_portKept h access
  | hostWrite | consume | load | disarm | suspend | resume | retune | snapshot | flush | mark | journal | timebase
  | badop | restart => exact portKept_next (takeHostWrite_portWf h _)

theorem step_portWf {s t : State} (hstep : step s = .next t) (h : s.portWf) : t.portWf := by
  unfold step at hstep
  split at hstep
  · cases hstep
    exact h
  next c rest _ => exact exec_portKept c (s := { s with pending := rest }) h t hstep

/-- Settles O60: every command keeps the port, and every act of a step the timers. -/
theorem stepsKeepPortAndTimers : Obligations.StepsKeepPortAndTimers := fun _ _ hstep =>
  ⟨step_portWf hstep, step_keeps (fun _ _ => act_timersWf) hstep⟩

end Sys2Proof.Machine
end

section
/-! PROOFS. The memory port: a host write that is taken (O6), one without a lane (O7), a memory-side write (O54), the
grants (O51) and a host access that is presented (O52). -/

namespace Sys2Proof.Machine

/-! ## Host writes that are taken -/

/-- Every row of a host write is the taking of that write (R94, R110; log 9, log 18). -/
theorem exec_of_hostWriteOf {c : Instr} {w : HostWrite} {s : State} (h : s.hostWriteOf c = some w) :
    exec c s = .next (s.takeHostWrite w) := by
  cases c with
  | hostWrite | consume | load | disarm | suspend | resume | retune | snapshot | flush | mark | journal | timebase
  | badop | restart =>
    obtain rfl := Option.some.inj h
    rfl
  | pinReset | resetRelease | commandRead | primeRead | scrubRead | snapshotWrite | completionWrite | refusalWrite
  | startupWrite | beginRecord | recordWordWrite | publication | installRequestTaken | installation | portGrant
  | tickEvent | holdoffExpiry | deadlineExpiry | scrubExpiry | referenceClockPeriod | memorySideAgentWrite
  | hostAccessPresented => exact absurd h nofun

theorem exec_hostWrite (w : HostWrite) (s : State) :
    exec (.hostWrite w.addr w.lanes w.data) s = .next (s.takeHostWrite w) := rfl

/-- Settles O6: every row takes the same write, and the write taken is its store in memory. -/
theorem hostWriteReachesMemory : Obligations.HostWriteReachesMemory := by
  intro c w s hrow hready
  refine ⟨s.takeHostWrite w, exec_of_hostWriteOf hrow, exec_hostWrite w s, fun x => ?_⟩
  rw [takeHostWrite_of_ready hready, hostWriteTaken_mem, hostTaking_mem, readByte_writeLanes]

/-- A taken write without a lane changes nothing (R131). -/
theorem hostWriteTaken_no_lane (a : Addr) (data : Word) (s : State) : s.hostWriteTaken ⟨a, ⟨false, false⟩, data⟩ = s :=
  meetTake_eq_self (t := s) rfl

/-- Settles O7: the write is granted and taken, and its taking changes nothing. -/
theorem noLaneWriteHasNoEffect : Obligations.NoLaneWriteHasNoEffect := by
  intro a data s hready
  have htaken : ∀ b : Addr, s.takeHostWrite ⟨b, ⟨false, false⟩, data⟩ = s.hostTaking := fun b => by
    rw [takeHostWrite_of_ready hready, hostWriteTaken_no_lane]
  exact ⟨congrArg Host.Outcome.next (htaken a), congrArg Host.Outcome.next (htaken _)⟩

/-- Settles O54: the row is the store of a whole word. -/
theorem memorySideWriteTellsNoBlock : Obligations.MemorySideWriteTellsNoBlock := fun a data s =>
  ⟨s.writeWord a data, rfl, rfl, writeWord_storesWord s.mem a data⟩

/-! ## The rotation -/

/-- No claimant before c, from the rotation pointer on, has a claim waiting (R137). -/
def State.firstClaimant (s : State) (c : Claimant) : Prop :=
  c = s.port.pointer ∨
    (s.claims s.port.pointer = false ∧ (c = s.port.pointer.next ∨ s.claims s.port.pointer.next = false))

theorem claimant_from (p c : Claimant) : c = p ∨ c = p.next ∨ c = p.next.next := by
  cases p <;> cases c <;> decide

/-- The rotation chooses the first claimant from the pointer on with a claim waiting (R137). -/
theorem rotationChoice_iff {s : State} {c : Claimant} :
    s.rotationChoice = some c ↔ s.claims c = true ∧ s.firstClaimant c := by
  have hfrom := claimant_from s.port.pointer c
  simp only [State.rotationChoice, State.firstClaimant, List.find?_cons, List.find?_nil]
  cases h1 : s.claims s.port.pointer
  · cases h2 : s.claims s.port.pointer.next
    · cases h3 : s.claims s.port.pointer.next.next <;> grind
    · grind
  · grind

theorem internalWaits_iff {s : State} :
    s.internalWaits = true ↔ s.claims .processor = true ∨ s.claims .writer = true ∨ s.claims .scrubber = true := by
  simp only [State.internalWaits, Bool.or_eq_true, or_assoc]

/-- Where a claim waits, the rotation chooses one (R135, R137). -/
theorem exists_rotationChoice {s : State} (h : s.internalWaits = true) : ∃ c, s.rotationChoice = some c := by
  obtain ⟨c, hc⟩ : ∃ c, s.claims c = true := by
    rcases internalWaits_iff.1 h with h | h | h <;> exact ⟨_, h⟩
  cases h1 : s.claims s.port.pointer
  · cases h2 : s.claims s.port.pointer.next
    · exact ⟨c, rotationChoice_iff.2 ⟨hc, .inr ⟨h1, .inr h2⟩⟩⟩
    · exact ⟨_, rotationChoice_iff.2 ⟨h2, .inr ⟨h1, .inl rfl⟩⟩⟩
  · exact ⟨_, rotationChoice_iff.2 ⟨h1, .inl rfl⟩⟩

theorem internalWaits_of_choice {s : State} {c : Claimant} (h : s.rotationChoice = some c) : s.internalWaits = true := by
  have hc := (rotationChoice_iff.1 h).1
  rw [internalWaits_iff]
  cases c with
  | processor => exact .inl hc
  | writer => exact .inr (.inl hc)
  | scrubber => exact .inr (.inr hc)

/-! ## The arbiter's grant, row by row of R135 -/

theorem grant_of_busy {s : State} (h : s.port.resetAsserted = true ∨ s.port.performing ≠ none) : s.grant = s := by
  refine if_pos ?_
  simpa only [Bool.or_eq_true, Option.isSome_iff_ne_none] using h

/-- Where no access waits there is no grant to make. -/
theorem grant_of_none {s : State} (hhost : s.port.hostWaiting = none) (h : s.internalWaits = false) : s.grant = s := by
  have hchoice : s.rotationChoice = none := Option.eq_none_iff_forall_ne_some.2 fun c hc => by
    simp [internalWaits_of_choice hc] at h
  unfold State.grant
  simp only [hhost, hchoice, ite_self]

theorem grant_of_host {s : State} (hreset : s.port.resetAsserted = false) (hfree : s.port.performing = none)
    {access : HostAccess} (hhost : s.port.hostWaiting = some access)
    (h : s.internalWaits = false ∨ s.port.guard < Config.guardLimit) : s.grant = s.grantHost access := by
  have hgo : (s.internalWaits && decide (Config.guardLimit ≤ s.port.guard)) = false := by
    rcases h with h | h
    · simp only [h, Bool.false_and]
    · simp only [decide_eq_false (Nat.not_le.2 h), Bool.and_false]
  simp [State.grant, hreset, hfree, hhost, hgo]

theorem grant_of_internal {s : State} (hreset : s.port.resetAsserted = false) (hfree : s.port.performing = none)
    (h : s.port.hostWaiting = none ∨ Config.guardLimit ≤ s.port.guard) {c : Claimant}
    (hchoice : s.rotationChoice = some c) : s.grant = s.grantInternal c := by
  have hwaits := internalWaits_of_choice hchoice
  cases hhost : s.port.hostWaiting with
  | none => simp [State.grant, hreset, hfree, hhost, hchoice]
  | some access =>
    have hguard := h.resolve_left (by simp [hhost])
    simp [State.grant, hreset, hfree, hhost, hwaits, hguard, hchoice]

/-- Settles O51: the rows of R135, each with its grant. -/
theorem arbiterGrantsByTable : Obligations.ArbiterGrantsByTable := by
  intro s _ p waits guard
  have hwaits : s.internalWaits = true ↔ waits := internalWaits_iff
  have hfalse : ¬waits ↔ s.internalWaits = false := by rw [← hwaits, Bool.not_eq_true]
  have hguard : s.guardAfterHostGrant = guard := by
    simp only [State.guardAfterHostGrant, guard, hwaits, p]
  have hexec : exec .portGrant s = .next s.grant := rfl
  rw [hexec]
  refine ⟨?_, fun hreset hfree => ⟨fun w hhost hgo => ?_, fun a hhost hgo => ?_, fun c hgo hc hfirst => ?_⟩⟩
  · rintro (hreset | hbusy | ⟨hhost, hnone⟩)
    · rw [grant_of_busy (.inl hreset)]
    · rw [grant_of_busy (.inr hbusy)]
    · rw [grant_of_none hhost (hfalse.1 hnone)]
  · rw [grant_of_host hreset hfree hhost (hgo.imp_left hfalse.1), State.grantHost, hguard]
  · rw [grant_of_host hreset hfree hhost (hgo.imp_left hfalse.1), State.grantHost, hguard]
    rfl
  · have hchoice : s.rotationChoice = some c := rotationChoice_iff.2 ⟨hc, hfirst⟩
    rw [grant_of_internal hreset hfree (hgo.imp_right Eq.ge) hchoice]
    rfl

/-! ## A host access that is presented -/

/-- The state in which the host has presented an access and no grant has been made since (R138). -/
def State.presented (s : State) (access : HostAccess) : State :=
  { s with port := { s.port with hostWaiting := some access, wait := true } }

theorem present_eq_grant (s : State) (access : HostAccess) : s.present access = (s.presented access).grant := rfl

/-- The host's access is held under WAIT behind an internal access (R138): the one being performed, or the one that the
arbiter grants in its place (R136, R137). -/
def State.heldBehind (s : State) (access : HostAccess) (who : Claimant) : State :=
  { s with port := { s.port with
    hostWaiting := some access
    wait := true
    performing := some (.internal who)
    guard := if s.port.performing = none then 0 else s.port.guard
    pointer := if s.port.performing = none then who.next else s.port.pointer } }

/-- An access of a `hostHeld` state waits behind the internal access that is performed, or behind the rotation's choice
(R135, R137, R138). -/
theorem present_of_held {s : State} (h : s.hostHeld) : ∃ who, (∀ access, s.present access = s.heldBehind access who) ∧
    (s.port.performing = none → s.claims who = true ∧ s.firstClaimant who) ∧
      (s.port.performing ≠ none → s.port.performing = some (.internal who)) := by
  obtain ⟨hreset, -, ⟨who, hwho⟩ | ⟨hfree, hwaits, hguard⟩⟩ := h
  · have hbusy : s.port.performing ≠ none := by simp [hwho]
    refine ⟨who, fun access => ?_, fun hfree => absurd hfree hbusy, fun _ => hwho⟩
    rw [present_eq_grant, grant_of_busy (s := s.presented access) (.inr hbusy)]
    simp only [State.presented, State.heldBehind, if_neg hbusy, ← hwho]
  · obtain ⟨who, hchoice⟩ := exists_rotationChoice hwaits
    refine ⟨who, fun access => ?_, fun _ => rotationChoice_iff.1 hchoice, fun hbusy => absurd hfree hbusy⟩
    rw [present_eq_grant, grant_of_internal (s := s.presented access) hreset hfree (.inr hguard.ge) hchoice]
    simp only [State.heldBehind, if_pos hfree]
    rfl

/-- A host write that the port does not let be taken waits as a presented one (R132; log 9). -/
theorem takeHostWrite_of_held {s : State} (h : s.hostHeld) {w : HostWrite} {who : Claimant}
    (hpresent : s.present (.write w) = s.heldBehind (.write w) who) :
    s.takeHostWrite w = s.heldBehind (.write w) who := by
  have hbehind : (s.heldBehind (.write w) who).port.performing = some (.internal who) := rfl
  obtain ⟨hreset, -, ⟨c, hc⟩ | ⟨hfree, -⟩⟩ := h
  · simp [State.takeHostWrite, hreset, hc, hpresent, hbehind]
  · simp [State.takeHostWrite, hreset, hfree, hpresent, hbehind]

theorem exec_hostAccessPresented (access : HostAccess) (s : State) : exec (.hostAccessPresented access) s =
    .next (if s.port.resetAsserted then s.forward access else if s.hostInProgress then s else s.present access) := rfl

theorem exec_hostAccessPresented_of_idle {s : State} (hreset : s.port.resetAsserted = false)
    (hidle : s.hostInProgress = false) (access : HostAccess) :
    exec (.hostAccessPresented access) s = .next (s.present access) := by
  simp only [exec_hostAccessPresented, hreset, hidle, Bool.false_eq_true, if_false]

/-- While the reset input is asserted a host write of any row is forwarded (R139). -/
theorem takeHostWrite_of_reset {s : State} (h : s.port.resetAsserted = true) (w : HostWrite) :
    s.takeHostWrite w = s.forward (.write w) := if_pos h

/-- Forwarding changes memory by the lanes of a write and the host's read data by the word of a read, and nothing else
(R139). -/
theorem forward_eq (access : HostAccess) (s : State) :
    s.forward access = { s with
      mem := (s.forward access).mem, port := { s.port with readData := (s.forward access).port.readData } } := by
  cases access <;> rfl

/-- Settles O52: forwarded under reset, without effect while one is in progress, held behind an internal access, and
otherwise granted at once. -/
theorem heldAccessWaits : Obligations.HeldAccessWaits := by
  intro access s writes
  refine ⟨fun hreset => ?_, fun hreset hprogress => ?_, fun hheld => ?_, fun hreset hidle hfree hgo => ?_⟩
  · refine ⟨s.forward access, ?_, forward_eq access s, ?_, ?_⟩
    · simp only [exec_hostAccessPresented, hreset, if_true]
    · rintro c ⟨w, rfl, hrow⟩
      rw [exec_of_hostWriteOf hrow, takeHostWrite_of_reset hreset]
    · cases access with
      | read a => exact ⟨rfl, rfl⟩
      | write w => exact ⟨rfl, readByte_writeLanes s.mem w.addr w.lanes w.data⟩
  · simp only [exec_hostAccessPresented, hreset, hprogress, Bool.false_eq_true, if_false, if_true]
  · obtain ⟨who, hpresent, hchosen, hperformed⟩ := present_of_held hheld
    refine ⟨s.heldBehind access who, who, rfl, hchosen, hperformed, fun hidle => ?_, ?_⟩
    · rw [exec_hostAccessPresented_of_idle hheld.1 hidle, hpresent]
    · rintro c ⟨w, rfl, hrow⟩
      rw [exec_of_hostWriteOf hrow, takeHostWrite_of_held hheld (hpresent _)]
  · intro granted
    rw [exec_hostAccessPresented_of_idle hreset hidle, present_eq_grant,
      grant_of_host (s := s.presented access) hreset hfree rfl hgo]
    cases access <;> rfl

end Sys2Proof.Machine
end

section
/-! PROOFS. The clock periods that make a tick event (O19, O20). -/

namespace Sys2Proof.Machine

/-! ## One reference clock period -/

theorem exec_referenceClockPeriod (s : State) : exec .referenceClockPeriod s = .next s.clockPeriod := rfl

/-- While the reset input is asserted the phase stays (R143). -/
theorem clockPeriod_of_reset {s : State} (h : s.port.resetAsserted = true) : s.clockPeriod = s := if_pos h

/-- A state with its phase one period on. -/
def State.phaseAdvanced (s : State) : State := { s with timebase := { s.timebase with phase := s.timebase.phase + 1 } }

theorem clockPeriod_of_short {s : State} (hreset : s.port.resetAsserted = false)
    (hlt : s.timebase.phase.toNat + 1 < s.timebase.divisor.toNat) : s.clockPeriod = s.phaseAdvanced := by
  simp only [State.clockPeriod, hreset, Bool.false_eq_true, if_false, if_pos hlt, State.phaseAdvanced]

theorem clockPeriod_of_complete {s : State} (hreset : s.port.resetAsserted = false)
    (hle : s.timebase.divisor.toNat ≤ s.timebase.phase.toNat + 1) : s.clockPeriod = s.makeTick := by
  simp only [State.clockPeriod, hreset, Bool.false_eq_true, if_false, if_neg hle.not_gt]

theorem makeTick_timebase (s : State) : s.makeTick.timebase = s.timebase.ticked := by rw [(makeTick_eq s).2]

/-- Settles O19: the three branches of a clock period. -/
theorem clockPeriodAdvancesPhase : Obligations.ClockPeriodAdvancesPhase := by
  intro s
  rw [exec_referenceClockPeriod, exec_tickEvent]
  refine ⟨fun hreset => ?_, fun hreset hlt => ?_, fun hreset hle => ?_⟩
  · rw [clockPeriod_of_reset hreset]
  · rw [clockPeriod_of_short hreset hlt, State.phaseAdvanced]
  · rw [clockPeriod_of_complete hreset hle, tickEvent_of_released hreset]
    exact ⟨_, rfl, rfl, by rw [makeTick_timebase]; rfl, by rw [makeTick_timebase]; rfl⟩

/-! ## The periods of a tick, run from the queue -/

/-- A run goes on from the state its first step answers. -/
theorem run_succ_of_next {M : Host.Core} {s t : M.State} (h : M.step s = .next t) (k : Nat) :
    M.run (k + 1) s = M.run k t := by
  simp only [Host.Core.run, h]

/-- A run whose first step takes a clock period goes on from the state after that period (R143). -/
theorem run_succ_of_clockPeriod (k : Nat) {s t : State} {later : List Instr}
    (hpending : s.pending = .referenceClockPeriod :: later)
    (hperiod : State.clockPeriod { s with pending := later } = t) :
    Host.Core.run Sys2Proof.core (k + 1) s = Host.Core.run Sys2Proof.core k t := by
  have hstep : step s = .next t := by
    rw [step, hpending, ← hperiod]
    rfl
  exact run_succ_of_next hstep k

theorem phase_succ_toNat {t : Timebase} (h : t.phase.toNat + 1 < t.divisor.toNat) :
    (t.phase + 1).toNat = t.phase.toNat + 1 := by
  have := t.divisor.isLt
  have hone : (1 : BitVec 16).toNat = 1 := rfl
  rw [BitVec.toNat_add, hone]
  omega

/-- A tick event restarts the phase, so it does not depend on how far the phase is (R144). -/
theorem makeTick_phaseAdvanced (s : State) : s.phaseAdvanced.makeTick = s.makeTick := rfl

/-- Fewer periods than the tick needs advance the phase alone (R143). -/
theorem run_periods_short (k : Nat) {s : State} {rest : List Instr} (hreset : s.port.resetAsserted = false)
    (hpending : s.pending = List.replicate k .referenceClockPeriod ++ rest)
    (hlt : s.timebase.phase.toNat + k < s.timebase.divisor.toNat) :
    Host.Core.run Sys2Proof.core k s = .next { s with
      pending := rest, timebase := { s.timebase with phase := s.timebase.phase + BitVec.ofNat 16 k } } := by
  induction k generalizing s with
  | zero =>
    obtain rfl : s.pending = rest := hpending
    simp [Host.Core.run]
  | succ k ih =>
    have hshort : s.timebase.phase.toNat + 1 < s.timebase.divisor.toNat := by omega
    have hphase := phase_succ_toNat hshort
    have hsum : s.timebase.phase + 1 + BitVec.ofNat 16 k = s.timebase.phase + BitVec.ofNat 16 (k + 1) := by
      rw [BitVec.add_assoc, BitVec.add_comm 1, BitVec.ofNat_add]
      rfl
    have hlater : (s.timebase.phase + 1).toNat + k < s.timebase.divisor.toNat := by omega
    refine (run_succ_of_clockPeriod k hpending (clockPeriod_of_short hreset hshort)).trans
      ((ih (s := State.phaseAdvanced { s with pending := _ }) hreset rfl hlater).trans ?_)
    rw [← hsum]
    rfl

/-- The last of the periods the tick needs is the tick event (R143, R144). -/
theorem run_periods_complete (k : Nat) {s : State} {rest : List Instr} (hreset : s.port.resetAsserted = false)
    (hpending : s.pending = List.replicate (k + 1) .referenceClockPeriod ++ rest)
    (heq : s.timebase.phase.toNat + (k + 1) = s.timebase.divisor.toNat) :
    Host.Core.run Sys2Proof.core (k + 1) s = .next (State.makeTick { s with pending := rest }) := by
  induction k generalizing s with
  | zero => exact run_succ_of_clockPeriod 0 hpending (clockPeriod_of_complete hreset heq.ge)
  | succ k ih =>
    have hshort : s.timebase.phase.toNat + 1 < s.timebase.divisor.toNat := by omega
    have hphase := phase_succ_toNat hshort
    have hlater : (s.timebase.phase + 1).toNat + (k + 1) = s.timebase.divisor.toNat := by omega
    exact (run_succ_of_clockPeriod (k + 1) hpending (clockPeriod_of_short hreset hshort)).trans
      ((ih (s := State.phaseAdvanced { s with pending := _ }) hreset rfl hlater).trans
        (congrArg _ (makeTick_phaseAdvanced { s with pending := rest })))

/-- Settles O20: induction on the number of periods, each taken from the front of the queue. -/
theorem periodsMakeTheTick : Obligations.PeriodsMakeTheTick := by
  intro s rest k hreset hphase hpending
  refine ⟨run_periods_short k hreset hpending, fun heq => ?_⟩
  obtain ⟨j, rfl⟩ : ∃ j, k = j + 1 := Nat.exists_eq_succ_of_ne_zero (by omega)
  refine (run_periods_complete j hreset hpending heq).trans (congrArg _ ?_)
  exact (tickEvent_of_released (s := { s with pending := rest }) hreset).symm

end Sys2Proof.Machine
end

section
/-! PROOFS. The Scrubber: an expiry (O21) and a read (O22). -/

namespace Sys2Proof.Machine

/-! ## The search from the cursor -/

theorem eligible_iff {s : State} {p : Index × BitVec 4} : s.eligible p = true ↔
    ((s.entry p.1).state = .armed ∨ (s.entry p.1).state = .suspended) ∧ p.2.toNat < (s.entry p.1).span.toNat := by
  simp [State.eligible, Entry.scrubbed]

/-- Of the four states the cursor visits all but FREE and PRIMING (R1, R3). -/
theorem scrubbed_iff {e : Entry} : e.scrubbed = true ↔ e.state ≠ .free ∧ e.state ≠ .priming := by
  cases h : e.state <;> simp [Entry.scrubbed, h]

theorem Entry.Kept.scrubbed {e e' : Entry} (h : e.Kept e') : e'.scrubbed = e.scrubbed :=
  Bool.eq_iff_iff.2 (by simp only [scrubbed_iff, ne_eq, h.free, h.priming])

/-- The eligible positions are those of the words of entries, so they stay where the entries keep their places. -/
theorem eligible_of_keeps {s t : State} (h : s.Keeps t) (p : Index × BitVec 4) : t.eligible p = s.eligible p := by
  simp only [State.eligible, (h p.1).scrubbed, (h p.1).span]

/-- The position at a distance from the cursor (R149). -/
def Scrubber.positionAt (sc : Scrubber) (i : Nat) : Nat := sc.cursorEntry.toNat * 16 + sc.cursorOffset.toNat + i

/-- An entry and an offset are those of a position, counted modulo the 1024 positions. -/
theorem position_eq_iff {m : Index} {k : BitVec 4} {p : Nat} :
    (BitVec.ofNat 6 (p / 16), BitVec.ofNat 4 p) = (m, k) ↔ m.toNat * 16 + k.toNat = p % 1024 := by
  have hm := m.isLt
  have hk := k.isLt
  rw [Prod.mk.injEq, ← BitVec.toNat_inj, ← BitVec.toNat_inj, BitVec.toNat_ofNat, BitVec.toNat_ofNat]
  omega

theorem searchOrder_getElem (sc : Scrubber) {i : Nat} (h : i < sc.searchOrder.length) :
    sc.searchOrder[i] = (BitVec.ofNat 6 (sc.positionAt i / 16), BitVec.ofNat 4 (sc.positionAt i)) := by
  simp [Scrubber.searchOrder, Scrubber.positionAt]

theorem searchOrder_length (sc : Scrubber) : sc.searchOrder.length = 1024 := by simp [Scrubber.searchOrder]

theorem nextScrub_eq_none {s : State} (h : ∀ p, s.eligible p = false) : s.nextScrub = none :=
  List.find?_eq_none.2 fun p _ => by simp [h p]

/-- The next scrub word is the first eligible position from the cursor on (R149). -/
theorem nextScrub_eq_some {s : State} {m : Index} {k : BitVec 4} {i : Nat} (hi : i < 1024)
    (hpos : m.toNat * 16 + k.toNat = s.scrubber.positionAt i % 1024) (hel : s.eligible (m, k) = true)
    (hfirst : ∀ i' < i, ∀ (m' : Index) (k' : BitVec 4),
      m'.toNat * 16 + k'.toNat = s.scrubber.positionAt i' % 1024 → s.eligible (m', k') = false) :
    s.nextScrub = some (m, k) := by
  refine List.find?_eq_some_iff_getElem.2 ⟨hel, i, by rwa [searchOrder_length], ?_, fun j hj => ?_⟩
  · rw [searchOrder_getElem, position_eq_iff.2 hpos]
  · rw [searchOrder_getElem, hfirst j hj _ _ (position_eq_iff.1 rfl)]
    rfl

/-! ## The expiry in its tick event -/

theorem tickTimers_keeps (s : State) : s.Keeps s.tickTimers :=
  forEach_induct (P := fun t => s.Keeps t) s.timed (keeps_of_entries rfl) fun n _ t h => h.trans (tickEntry_keeps t n)

theorem makeTick_scrubber_of_due {s : State} (h : s.scrubber.due = true) :
    s.makeTick.scrubber = s.tickTimers.expireScrub.scrubber := by
  have hdue : s.tickTimers.scrubber.due = true := by rwa [State.tickTimers_scrubber]
  rw [makeTick_eq_tickScrub, State.meetTake_scrubber, State.tickScrub, if_pos hdue]

/-- The timers of a tick leave the Scrubber and the eligible positions alone, so the search finds what it would have
found before (R149). -/
theorem nextScrub_tickTimers (s : State) : s.tickTimers.nextScrub = s.nextScrub := by
  simp only [State.nextScrub, State.tickTimers_scrubber, funext (eligible_of_keeps (tickTimers_keeps s))]

/-- An expiry with a claim outstanding, or with no word to claim, only sets the countdown again (R148, R149). -/
theorem expireScrub_scrubber_dropped {s : State} (h : s.scrubber.claim.isSome = true ∨ s.nextScrub = none) :
    s.expireScrub.scrubber = { s.scrubber with countdown := s.scrubber.interval } := by
  unfold State.expireScrub
  dsimp only
  split
  next => rfl
  next hclaim => rw [h.resolve_left hclaim]

/-- The Scrubber after an expiry that claims an offset of an entry: the cursor is past the claimed word, and past the
entry where that word is its last (R149). -/
def State.scrubberClaiming (s : State) (m : Index) (k : BitVec 4) : Scrubber :=
  let last := (s.entry m).span.toNat ≤ k.toNat + 1
  { s.scrubber with
    countdown := s.scrubber.interval
    cursorEntry := if last then m + 1 else m
    cursorOffset := if last then 0 else k + 1
    claim := some { entry := m, offset := k, addr := (s.entry m).base + BitVec.ofNat 20 k.toNat, void := false } }

/-- The entries' places and the Scrubber are all that a claim depends on. -/
theorem scrubberClaiming_tickTimers (s : State) (m : Index) (k : BitVec 4) :
    s.tickTimers.scrubberClaiming m k = s.scrubberClaiming m k := by
  have hkept := tickTimers_keeps s m
  simp only [State.scrubberClaiming, State.tickTimers_scrubber, hkept.span, hkept.base]

theorem expireScrub_scrubber_some {s : State} {m : Index} {k : BitVec 4} (hclaim : s.scrubber.claim = none)
    (hnext : s.nextScrub = some (m, k)) : s.expireScrub.scrubber = s.scrubberClaiming m k := by
  have hcursor : s.cursorAfter (m, k) = if (s.entry m).span.toNat ≤ k.toNat + 1 then (m + 1, 0) else (m, k + 1) := by
    simp only [State.cursorAfter, ← not_le, ite_not]
  simp only [State.expireScrub, hclaim, hnext, hcursor, State.scrubClaimOf, State.scrubberClaiming,
    BitVec.ofNat_toNat, Option.isSome_none, Bool.false_eq_true, if_false, apply_ite Prod.fst, apply_ite Prod.snd]

/-- The expiry in a tick event (R144, R149): the Scrubber and the places of the entries are those before the tick. -/
theorem makeTick_scrubber_dropped {s : State} (hdue : s.scrubber.due = true)
    (h : s.scrubber.claim.isSome = true ∨ s.nextScrub = none) :
    s.makeTick.scrubber = { s.scrubber with countdown := s.scrubber.interval } := by
  rw [makeTick_scrubber_of_due hdue, expireScrub_scrubber_dropped, State.tickTimers_scrubber]
  rwa [State.tickTimers_scrubber, nextScrub_tickTimers]

theorem makeTick_scrubber_some {s : State} (hdue : s.scrubber.due = true) {m : Index} {k : BitVec 4}
    (hclaim : s.scrubber.claim = none) (hnext : s.nextScrub = some (m, k)) :
    s.makeTick.scrubber = s.scrubberClaiming m k := by
  rw [makeTick_scrubber_of_due hdue, expireScrub_scrubber_some (m := m) (k := k), scrubberClaiming_tickTimers]
  · rw [State.tickTimers_scrubber, hclaim]
  · rw [nextScrub_tickTimers, hnext]

/-- Settles O21: the tick event of the expiry, by what the search from the cursor finds. -/
theorem scrubExpiryClaimsNextWord : Obligations.ScrubExpiryClaimsNextWord := by
  intro s sc eligible position dropped
  have hexec : exec .scrubExpiry s = .next (if s.scrubber.due then s.tickEvent else s) := rfl
  rw [hexec, exec_tickEvent, scrubEnds_iff]
  refine ⟨fun hnot => by rw [tickEvent_if_of_not_ends hnot], fun ⟨hreset, hdue⟩ => ?_⟩
  rw [if_pos hdue, tickEvent_of_released hreset]
  refine ⟨_, rfl, rfl, by rw [makeTick_timebase]; rfl, fun hclaim => ?_, fun hnone => ?_,
    fun hclaim m k i hi hpos hel hfirst => ?_⟩
  · exact makeTick_scrubber_dropped hdue (.inl hclaim)
  · have hno : ∀ p, s.eligible p = false := fun p => by simpa using mt eligible_iff.1 (hnone p.1 p.2)
    exact makeTick_scrubber_dropped hdue (.inr (nextScrub_eq_none hno))
  · have hfirst : ∀ i' < i, ∀ (m' : Index) (k' : BitVec 4),
        m'.toNat * 16 + k'.toNat = s.scrubber.positionAt i' % 1024 → s.eligible (m', k') = false :=
      fun i' hi' m' k' h => by simpa using mt eligible_iff.1 (hfirst i' hi' m' k' h)
    exact makeTick_scrubber_some hdue hclaim (nextScrub_eq_some hi hpos (eligible_iff.2 hel) hfirst)

/-! ## The scrub read -/

/-- A void claim, or a word that reads as its shadow, only ceases to be outstanding (R150, R151). -/
theorem scrubReadTaken_equal {s : State} {c : ScrubClaim}
    (h : c.void = true ∨ s.readWord c.addr = s.shadow c.entry c.offset.toNat) :
    s.scrubReadTaken c = { s with scrubber := { s.scrubber with claim := none } } := by
  have hequal : (c.void || s.readWord c.addr == s.shadow c.entry c.offset.toNat) = true := by simpa using h
  rw [State.scrubReadTaken, if_pos hequal]

/-- A word that reads otherwise than its shadow creates a DIVERGE event and becomes the shadow (R150). -/
theorem scrubReadTaken_unequal {s : State} {c : ScrubClaim} (hvoid : c.void = false)
    (hne : s.readWord c.addr ≠ s.shadow c.entry c.offset.toNat) :
    s.scrubReadTaken c =
      let e := s.entry c.entry
      let k := e.slotAt c.offset.toNat
      { s with
        scrubber := { s.scrubber with claim := none }
        entries := s.entries.set c.entry.toNat { e with eventCount := e.eventCount + 1 } c.entry.isLt
        slots := s.slots.set k.toNat { s.slot k with value := s.readWord c.addr } k.isLt
        queue := (s.queue.arrive
          { kind := .diverge, cls := e.cls, index := c.entry, offset := c.offset
            old := s.shadow c.entry c.offset.toNat, new := s.readWord c.addr, tag := e.tag, count := 1
            time := s.timebase.tick }).meetTake s.takeDue } := by
  have hunequal : ¬(c.void || s.readWord c.addr == s.shadow c.entry c.offset.toNat) = true := by simpa [hvoid] using hne
  rw [State.scrubReadTaken, if_neg hunequal, emitFor_eq, State.setShadow, entry_emitAll, entry_setEntry_same]
  rfl

/-- Settles O22: the read is taken in the state of its grant, which only the port's fields distinguish. -/
theorem scrubReadComparesShadow : Obligations.ScrubReadComparesShadow := by
  intro c s hready hclaim read old e k taken
  have hexec : exec .scrubRead s = .next (s.internalTaking.scrubReadTaken c) := by
    show execScrubRead s = _
    simp only [execScrubRead, hclaim, takeInternal_of_ready hready]
  simp only [taken]
  rw [hexec, internalTaking_eq]
  exact ⟨fun hequal => congrArg _ (scrubReadTaken_equal (s := { s with port := s.internalTaking.port }) hequal),
    fun hvoid hne => congrArg _ (scrubReadTaken_unequal (s := { s with port := s.internalTaking.port }) hvoid hne)⟩

end Sys2Proof.Machine
end

section
/-! PROOFS. The fields of an entry descriptor (O40). -/

namespace Sys2Proof.Machine

/-! ## Fields taken from a word -/

theorem field_toNat (w : Word) (start len : Nat) : (w.extractLsb' start len).toNat = w.toNat / 2 ^ start % 2 ^ len := by
  rw [BitVec.extractLsb'_toNat, Nat.shiftRight_eq_div_pow]

theorem lowField_toNat (w : Word) (len : Nat) : (w.extractLsb' 0 len).toNat = w.toNat % 2 ^ len := by
  rw [field_toNat, pow_zero, Nat.div_one]

theorem bit_eq (w : Word) (i : Nat) : w.getLsbD i = decide (w.toNat / 2 ^ i % 2 = 1) := by
  rw [BitVec.getLsbD, Nat.testBit_eq_decide_div_mod_eq]

/-- A field that reaches up to bit 15 is the whole quotient. -/
theorem topField_toNat (w : Word) {start len : Nat} (h : start + len = 16) :
    (w.extractLsb' start len).toNat = w.toNat / 2 ^ start := by
  rw [field_toNat]
  exact Nat.mod_eq_of_lt (Nat.div_lt_of_lt_mul (by rw [← pow_add, h]; exact w.isLt))

/-- Bit 15 is set from 8000h on. -/
theorem topBit_eq (w : Word) : w.getLsbD 15 = decide (32768 ≤ w.toNat) := by
  have := w.isLt
  rw [bit_eq, decide_eq_decide]
  omega

/-- A base address: its low word, and above it bits 3 to 0 of the next (10.3, 10.4). -/
theorem baseOf_toNat (low high : Word) :
    (high.extractLsb' 0 4 ++ low : BitVec (4 + 16)).toNat = low.toNat + 65536 * (high.toNat % 16) := by
  rw [append_toNat, lowField_toNat]
  omega

/-! ## The entry descriptor -/

/-- Settles O40: each field by the rule of its kind, on the word that holds it. -/
theorem descriptorLayout : Obligations.DescriptorLayout := by
  intro d0 d1 d2 d3 d4 d5 d6 d7 d
  have hbase : d.base.toNat = d0.toNat + 65536 * (d1.toNat % 16) := baseOf_toNat d0 d1
  have hspan : d.span.toNat = d1.toNat / 16 % 32 := field_toNat d1 4 5
  have hsense : d.senseCode.toNat = d1.toNat / 512 % 8 := field_toNat d1 9 3
  have hcls : d.cls.toNat = d1.toNat / 4096 % 4 := field_toNat d1 12 2
  have hsuspended : d.startSuspended = decide (d1.toNat / 16384 % 2 = 1) := bit_eq d1 14
  have hspareD1 : d.spareD1 = decide (32768 ≤ d1.toNat) := topBit_eq d1
  have hlimit : d.missLimit.toNat = d7.toNat % 16 := lowField_toNat d7 4
  have hspareD7 : d.spareD7.toNat = d7.toNat / 16 := topField_toNat d7 (start := 4) rfl
  exact ⟨hbase, hspan, hsense, hcls, hsuspended, hspareD1, rfl, rfl, rfl, rfl, rfl, hlimit, hspareD7⟩

end Sys2Proof.Machine
end

section
/-! PROOFS. What a step is, by the queue of commands (O1). -/

namespace Sys2Proof.Machine

theorem step_of_pending_nil {s : State} (h : s.pending = []) : step s = .next s := by
  rw [step, h]

theorem step_of_pending_cons {c : Instr} {rest : List Instr} {s : State} (h : s.pending = c :: rest) :
    step s = exec c { s with pending := rest } := by
  rw [step, h]

/-- Settles O1: the two shapes of the queue. -/
theorem stepTakesFrontCommand : Obligations.StepTakesFrontCommand :=
  ⟨fun _ _ _ => step_of_pending_cons, fun _ => step_of_pending_nil⟩

end Sys2Proof.Machine
end
